-- ==== Sys2Proof/Word.lean ====
section
/-! DEFINITION. The widths the spec names: a received byte (R35), the frame (R8, R45), the command word (R55) and the
response word (R62). -/

namespace Sys2Proof

/-- One received byte, `rx[i]` (R35). -/
abbrev Byte := BitVec 8

/-- The 32-bit frame (R8 `FRAME_BITS`, R45). -/
abbrev Frame := BitVec 32

/-- The 16-bit command word (R55). -/
abbrev CommandWord := BitVec 16

/-- The 64-bit response word (R62). -/
abbrev ResponseWord := BitVec 64

end Sys2Proof
end

