-- ==== Sys2Proof/Config.lean ====
section
/-! DEFINITION. What is fixed for the block (R8), what is fixed for one instance (R9), the values the model names for
the instance behind `State.reset` (log entry 1), and the free value of the transport (R26, log entry 3). -/

namespace Sys2Proof

/-- The bus peripheral that transport calls name: an opaque identifier (R9 `PERIPH_ID`). -/
structure PeriphId where
  num : Nat
  deriving DecidableEq, Repr

/-- A pin: an opaque identifier (R9 `CS_PIN`, `SPI_PINS`). -/
structure PinId where
  num : Nat
  deriving DecidableEq, Repr

/-- The role a pin is assigned by `PinFunc`: an opaque identifier (R9 `SPI_PINS`). -/
structure PinRole where
  num : Nat
  deriving DecidableEq, Repr

/-- The parameters of one instance (R9), fixed when it is constructed (R19). -/
structure Params where
  /-- `PERIPH_ID` -/
  periphId : PeriphId
  /-- `BAUD`, bits per second, a positive integer: `Params.wellFormed` -/
  baud : Nat
  /-- `CS_PIN` -/
  csPin : PinId
  /-- `SPI_PINS`, in list order -/
  spiPins : List (PinId × PinRole)
  /-- `T_SETTLE_MS`, milliseconds -/
  tSettleMs : Nat
  /-- `N_EDGE_NOPS` -/
  nEdgeNops : Nat
  /-- `ZERO_IS_NODATA` -/
  zeroIsNodata : Bool
  deriving DecidableEq, Repr

/-- What the transport answers to `Xfer`: `(ok, rx[0..3])`, `rx0` the first byte received (R26, R35). -/
structure TransportAnswer where
  ok : Bool
  rx0 : Byte
  rx1 : Byte
  rx2 : Byte
  rx3 : Byte
  deriving DecidableEq, Repr, Inhabited

namespace Config

/-- `TX_BYTE` (R8, R33). -/
def txByte : Byte := 0x00#8

/-- `FRAME_BYTES` (R8, R34). -/
def frameBytes : Nat := 4

/-- `MASK_RESET` (R8, R16). -/
def maskReset : BitVec 3 := 0b111#3

/-- DESIGN CHOICE (log entry 1), unsafe: the parameters of the instance behind `State.reset`. R9 gives
`T_SETTLE_MS` = 1 and `ZERO_IS_NODATA` = true as defaults and leaves the rest open; the shape is that of the example
instance of 95_test_vectors.md section 3. No statement rests on these values. -/
def resetParams : Params where
  periphId := ⟨0⟩
  baud := 1
  csPin := ⟨2⟩
  spiPins := [(⟨0⟩, ⟨0⟩), (⟨1⟩, ⟨0⟩)]
  tSettleMs := 1
  nEdgeNops := 3
  zeroIsNodata := true

/-- FREE VALUE (R26, R97, U2, U9; log entry 3): the transport's answer to the `draw`-th `Xfer` of the instance that
draws from stream `stream`, when its state lists none. It has no body: every Boolean and every four bytes are possible,
and no two draws are tied to each other, neither two of one instance nor two of different instances. -/
opaque freeAnswer (stream draw : Nat) : TransportAnswer

end Config

end Sys2Proof
end

