-- ==== Sys2Proof/Syntax.lean ====
section
/-! DEFINITION. The commands: one constructor for each row of spec/opcode_table.json (R56), and the source form an
assembler reads (R60). -/

namespace Sys2Proof

/-- The seven commands (R56). Only SET_MASK has an operand, 8 bits wide and unsigned (R57): no other term can be
written, so every term is well formed. -/
inductive Instr where
  /-- BEGIN, R89 -/
  | begin
  /-- SET_MASK, R90 -/
  | setMask (operand : BitVec 8)
  /-- READ_INTERNAL, R93 -/
  | readInternal
  /-- READ_CELSIUS, R94 -/
  | readCelsius
  /-- READ_FAHRENHEIT, R95 -/
  | readFahrenheit
  /-- READ_FAULT, R96 -/
  | readFault
  /-- GET_CONFIG, R91 -/
  | getConfig
  deriving DecidableEq, Repr

/-- The mnemonics of R56. -/
inductive Mnemonic where
  | begin | setMask | readInternal | readCelsius | readFahrenheit | readFault | getConfig
  deriving DecidableEq, Repr

/-- One line of assembler source after its numbers are read: a mnemonic and perhaps an operand (R60). Unlike `Instr`
it can be ill formed. -/
structure AsmCommand where
  mnemonic : Mnemonic
  operand : Option Nat
  deriving DecidableEq, Repr

end Sys2Proof
end

