-- ==== Sys2Proof/WellFormed.lean ====
section
/-! DEFINITION. The checks on terms that can be ill formed: an instance's parameters (R9) and a line of assembler
source (R60). An `Instr` is well formed by its type; the legality of a command WORD (R58) is part of decoding. -/

namespace Sys2Proof

/-- R9: `BAUD` is a positive integer. The other parameters are right by their types. -/
def Params.wellFormed (p : Params) : Bool := decide (0 < p.baud)

/-- R60: an operand is a number in 0..255. -/
def operandInRange (n : Nat) : Bool := decide (n ≤ 255)

/-- R60: SET_MASK takes one operand in 0..255; no other mnemonic takes one. -/
def AsmCommand.wellFormed (c : AsmCommand) : Bool :=
  match c.mnemonic, c.operand with
  | .setMask, some n => operandInRange n
  | .setMask, none => false
  | .begin, o | .readInternal, o | .readCelsius, o | .readFahrenheit, o | .readFault, o | .getConfig, o => o.isNone

end Sys2Proof
end

