-- ==== Sys2Proof/Decode.lean ====
section
/-! DEFINITION. Decoding a command word, total over all 65,536 words and rejecting by name (R58, R66); the encoder
(R55, R56, R57); the opcode table's rows (R66). -/

namespace Sys2Proof

/-- Why a word is illegal: the three conditions of R58. -/
inductive IllegalReason where
  /-- R58 condition 1: `op` is 0 or 8 to 15 -/
  | reservedOpcode
  /-- R58 condition 2: `rsv` is not 0 -/
  | reservedField
  /-- R58 condition 3: an operand on a command other than SET_MASK -/
  | strayOperand
  deriving DecidableEq, Repr

/-- `op`, word bits 3:0 (R55). -/
def opField (w : CommandWord) : BitVec 4 := w.extractLsb' 0 4

/-- `rsv`, word bits 7:4 (R55). -/
def rsvField (w : CommandWord) : BitVec 4 := w.extractLsb' 4 4

/-- `operand`, word bits 15:8 (R55, R57). -/
def operandField (w : CommandWord) : BitVec 8 := w.extractLsb' 8 8

/-- R58: the first of its conditions that holds. -/
def illegalReason (w : CommandWord) : Option IllegalReason :=
  if opField w = 0x0#4 ∨ 0x8#4 ≤ opField w then some .reservedOpcode
  else if rsvField w ≠ 0b0000#4 then some .reservedField
  else if opField w ≠ 0x2#4 ∧ operandField w ≠ 0x00#8 then some .strayOperand
  else none

/-- R66: legality first, then selection by `op` (R56). -/
def decodeCommand (w : CommandWord) : Except IllegalReason Instr :=
  match illegalReason w with
  | some r => .error r
  | none =>
    match (opField w).toNat with
    | 1 => .ok .begin
    | 2 => .ok (.setMask (operandField w))
    | 3 => .ok .readInternal
    | 4 => .ok .readCelsius
    | 5 => .ok .readFahrenheit
    | 6 => .ok .readFault
    | 7 => .ok .getConfig
    | _ => .error .reservedOpcode

/-- The command a word stands for, none where R58 calls it illegal. -/
def decode (w : CommandWord) : Option Instr :=
  match decodeCommand w with
  | .ok i => some i
  | .error _ => none

/-- The word of a command (R56, R57; SET_MASK as R90 gives it, `(m << 8) | 0x02`). -/
def encode : Instr → CommandWord
  | .begin => 0x0001#16
  | .setMask m => (m.setWidth 16 <<< 8) ||| 0x02#16
  | .readInternal => 0x0003#16
  | .readCelsius => 0x0004#16
  | .readFahrenheit => 0x0005#16
  | .readFault => 0x0006#16
  | .getConfig => 0x0007#16

/-- One row of spec/opcode_table.json: a word is the row's when `word & mask == match` (R66). -/
structure OpcodeRow where
  mnemonic : String
  pattern : CommandWord
  mask : CommandWord
  deriving DecidableEq, Repr

/-- Does a row select a word? (R66) -/
def OpcodeRow.selects (r : OpcodeRow) (w : CommandWord) : Bool := w &&& r.mask == r.pattern

/-- spec/opcode_table.json, row by row. -/
def opcodeTable : List OpcodeRow :=
  [ ⟨"BEGIN", 0x0001#16, 0xFFFF#16⟩,
    ⟨"SET_MASK", 0x0002#16, 0x00FF#16⟩,
    ⟨"READ_INTERNAL", 0x0003#16, 0xFFFF#16⟩,
    ⟨"READ_CELSIUS", 0x0004#16, 0xFFFF#16⟩,
    ⟨"READ_FAHRENHEIT", 0x0005#16, 0xFFFF#16⟩,
    ⟨"READ_FAULT", 0x0006#16, 0xFFFF#16⟩,
    ⟨"GET_CONFIG", 0x0007#16, 0xFFFF#16⟩ ]

/-- A command's mnemonic, as the table spells it. -/
def Instr.mnemonic : Instr → String
  | .begin => "BEGIN"
  | .setMask _ => "SET_MASK"
  | .readInternal => "READ_INTERNAL"
  | .readCelsius => "READ_CELSIUS"
  | .readFahrenheit => "READ_FAHRENHEIT"
  | .readFault => "READ_FAULT"
  | .getConfig => "GET_CONFIG"

/-- The command word held in the low `nbits` bits of `w`, every higher bit 0. Command words arrive whole on the command
port (R25, R43), so no byte order is involved. -/
def wordOfBits (nbits w : Nat) : CommandWord := BitVec.ofNat 16 (w % 2 ^ nbits)

/-- The command this decoder reads from the table's bits. Every command is 16 bits long (R55). -/
def decodeTableWord (nbits w : Nat) : Option Instr := decode (wordOfBits nbits w)

end Sys2Proof
end

