-- ==== Sys2Proof/Machine/State.lean ====
section
/-! DEFINITION. The state of one instance as plain data, its values after reset, and the reasons a step can stop. -/

namespace Sys2Proof.Machine

/-- A GPIO level (R24). -/
inductive Level where
  | low
  | high
  deriving DecidableEq, Repr

/-- The events the block emits on its transport, GPIO and delay ports (R12, R24). -/
inductive PortEvent where
  | busInit (periph : PeriphId) (baud : Nat)
  | pinFunc (pin : PinId) (role : PinRole)
  | gpioOut (pin : PinId)
  | gpioSet (pin : PinId) (level : Level)
  | nops (n : Nat)
  | delayMs (n : Nat)
  | xfer (periph : PeriphId) (txByte : Byte) (length : Nat)
  deriving DecidableEq, Repr

/-- One instance of the block: its two registers (R15), its parameters (R9, R19) and its ports (R24). -/
structure State where
  /-- `INIT`: 0 Unconfigured, 1 Ready (R17) -/
  init : BitVec 1
  /-- `MASK`: bit 0 `OC`, bit 1 `SCG`, bit 2 `SCV` (R16) -/
  mask : BitVec 3
  /-- the instance's parameters; no step writes them (R19) -/
  params : Params
  /-- the words the host presents at the command port, the next one first (R25) -/
  commands : List CommandWord
  /-- the transport's coming answers to `Xfer`, the next one first (R26) -/
  answers : List TransportAnswer
  /-- the stream of free values `Config.freeAnswer` this instance draws from; no step writes it, and on a platform each
  instance has its own (log entry 3) -/
  stream : Nat
  /-- the number of `Xfer`s made, the place in that stream (log entry 3) -/
  draws : Nat
  /-- the port events emitted, oldest first (R12, R24) -/
  trace : List PortEvent
  /-- the response words returned, oldest first (R25, R62) -/
  responses : List ResponseWord
  deriving DecidableEq, Repr

/-- Reset is the construction of an instance with its parameters: `INIT` 0, `MASK` `0b111`, no port event emitted, idle
(R29, R113, R114, R115). -/
def State.construct (p : Params) : State where
  init := 0#1
  mask := Config.maskReset
  params := p
  commands := []
  answers := []
  stream := 0
  draws := 0
  trace := []
  responses := []

/-- The machine right after reset: an instance constructed with the parameters log entry 1 names. -/
def State.reset : State := State.construct Config.resetParams

/-- Why a step can fault: never. The spec has no trap and no exception; every error is a response status (R103). So the
type has no constructor. -/
inductive Fault where
  deriving DecidableEq, Repr

/-- Why a step can be refused. -/
inductive Refusal where
  /-- Raised by an arm of `exec` whose instruction has no meaning yet (no arm is such a one); safe. -/
  | notModelled (mnemonic : String)
  deriving DecidableEq, Repr

end Sys2Proof.Machine
end

