-- ==== Sys2Proof/Machine/Operands.lean ====
section
/-! DEFINITION. The notation of R11 for signed values, the one operand form (R57), and the fields of a frame (R45). -/

namespace Sys2Proof.Machine

/-- `sext_N(u)`: the two's-complement reading of an `N`-bit value (R11). -/
def sext {n : Nat} (u : BitVec n) : Int := u.toInt

/-- `int32(x)`: the 32-bit two's-complement encoding of an integer (R11). -/
def int32 (x : Int) : BitVec 32 := BitVec.ofInt 32 x

/-- The value SET_MASK writes: `operand[2:0]`; bits 7:3 are discarded (R18, R57). -/
def maskOperand (m : BitVec 8) : BitVec 3 := m.extractLsb' 0 3

/-- The frame of a successful transfer, big-endian: the first byte received is the most significant (R36). -/
def assembleFrame (a : TransportAnswer) : Frame :=
  (a.rx0.setWidth 32 <<< 24) ||| (a.rx1.setWidth 32 <<< 16) ||| (a.rx2.setWidth 32 <<< 8) ||| a.rx3.setWidth 32

/-- The frame an acquisition yields: 0, with the bytes unread, when the transport answered not-ready (R37, R87). -/
def acquiredFrame (a : TransportAnswer) : Frame := if a.ok then assembleFrame a else 0#32

/-- `frame[31]`, the sign bit of `TC` (R47, R53). -/
def frameSign (frame : Frame) : BitVec 1 := frame.extractLsb' 31 1

/-- `frame[2:0]`, the fault field (R45, R49). -/
def frameFaults (frame : Frame) : BitVec 3 := frame.extractLsb' 0 3

end Sys2Proof.Machine
end

