-- ==== Sys2Proof/Machine/Flags.lean ====
section
/-! DEFINITION. The conditions a command reports: the no-data test (R85), the fault check (R70), the fault code and its
class (R76, R77), and the codes they have in a response (R54, R63). The block keeps no flag (R22). -/

namespace Sys2Proof.Machine

/-- The four statuses (R63). -/
inductive Status where
  /-- the command succeeded -/
  | ok
  /-- a fault bit enforced by `MASK` is set in the frame -/
  | fault
  /-- the transport was not ready, or the frame was the zero sentinel -/
  | noData
  /-- the command word is illegal -/
  | illegal
  deriving DecidableEq, Repr

/-- The status codes (R63). -/
def statusCode : Status → BitVec 2
  | .ok => 0#2
  | .fault => 1#2
  | .noData => 2#2
  | .illegal => 3#2

/-- The fault classes (R51). -/
inductive FaultKind where
  | none
  | openCircuit
  | shortGnd
  | shortVcc
  | unknown
  deriving DecidableEq, Repr

/-- The fault-kind codes (R54). -/
def kindCode : FaultKind → BitVec 3
  | .none => 0#3
  | .openCircuit => 1#3
  | .shortGnd => 2#3
  | .shortVcc => 3#3
  | .unknown => 4#3

/-- `nodata`: the transport was not ready, or the frame is 0 and `ZERO_IS_NODATA` is true (R85, R86). -/
def noData (zeroIsNodata ok : Bool) (frame : Frame) : Bool := !ok || (zeroIsNodata && frame == 0#32)

/-- `masked_faults(frame, mask)` (R70). -/
def maskedFaults (frame : Frame) (mask : BitVec 3) : BitVec 3 := frameFaults frame &&& mask

/-- `faulted(frame, mask)` (R70). -/
def faulted (frame : Frame) (mask : BitVec 3) : Bool := maskedFaults frame mask != 0#3

/-- `fault_code(frame)`, read without any mask (R49, R76). -/
def faultCode (frame : Frame) : BitVec 3 := frameFaults frame

/-- `classify(code)` (R77). -/
def classify (code : BitVec 3) : FaultKind :=
  match code.toNat with
  | 0 => .none
  | 1 => .openCircuit
  | 2 => .shortGnd
  | 4 => .shortVcc
  | _ => .unknown

end Sys2Proof.Machine
end

