-- ==== Sys2Proof/Machine/Response.lean ====
section
/-! DEFINITION. The response word (R62): its packing, and its fields as a reader takes them (R65). -/

namespace Sys2Proof.Machine

/-- The word of `respond(status, fbits, kind, value)` (R62, R65). -/
def responseWord (status : Status) (fbits kind : BitVec 3) (value : Int) : ResponseWord :=
  int32 value ++ 0#24 ++ kind ++ fbits ++ statusCode status

/-- `status`, response bits 1:0 (R62). -/
def respStatus (w : ResponseWord) : BitVec 2 := w.extractLsb' 0 2

/-- `fbits`, response bits 4:2 (R62). -/
def respFbits (w : ResponseWord) : BitVec 3 := w.extractLsb' 2 3

/-- `kind`, response bits 7:5 (R62). -/
def respKind (w : ResponseWord) : BitVec 3 := w.extractLsb' 5 3

/-- The reserved field, response bits 31:8 (R62). -/
def respReserved (w : ResponseWord) : BitVec 24 := w.extractLsb' 8 24

/-- `value`, response bits 63:32, read as `sext_32` (R62, R65). -/
def respValue (w : ResponseWord) : Int := sext (w.extractLsb' 32 32)

end Sys2Proof.Machine
end

