-- ==== Sys2Proof/Machine/FrameDecode.lean ====
section
/-! DEFINITION. The decode functions of 40_decode.md, each as the spec's pseudocode gives it: pure functions of the
frame and, on the thermocouple paths, of `MASK` (R79). Their results are exact integers in the units of R13. -/

namespace Sys2Proof.Machine

/-- A thermocouple result: a number, or the masked fault bits (40_decode.md, result types). -/
inductive TcResult where
  | ok (n : Int)
  | fault (fbits : BitVec 3)
  deriving DecidableEq, Repr

/-- `decode_internal(frame)`, in 1/16 degree C (R67). -/
def decodeInternal (frame : Frame) : Int :=
  let shifted := frame >>> 4
  let mag := shifted &&& 0x7FF#32
  if shifted &&& 0x800#32 ≠ 0#32 then sext ((0xF800#32 ||| mag).setWidth 16) else mag.toNat

/-- `decode_tc(frame)`, in 1/4 degree C (R71). -/
def decodeTc (frame : Frame) : Int :=
  if frameSign frame = 1#1 then sext (0xFFFFC000#32 ||| ((frame >>> 18) &&& 0x3FFF#32)) else (frame >>> 18).toNat

/-- `celsius(frame, mask)`: the fault test comes first, and a faulted frame yields no number (R73). -/
def celsius (frame : Frame) (mask : BitVec 3) : TcResult :=
  if faulted frame mask then .fault (maskedFaults frame mask) else .ok (decodeTc frame)

/-- `f_raw` of a `tc_raw`, in 1/20 degree F (R75). -/
def fahrenheitRaw (tcRaw : Int) : Int := 9 * tcRaw + 640

/-- `fahrenheit(frame, mask)`: the Celsius result of the same frame, converted; a fault is propagated (R75). -/
def fahrenheit (frame : Frame) (mask : BitVec 3) : TcResult :=
  match celsius frame mask with
  | .fault fb => .fault fb
  | .ok tcRaw => .ok (fahrenheitRaw tcRaw)

/-- The temperature an `int_raw` stands for, in degree C (R13, R69). -/
def internalDegrees (intRaw : Int) : Rat := (intRaw : Rat) / 16

/-- The temperature a `tc_raw` stands for, in degree C (R13, R74). -/
def tcDegrees (tcRaw : Int) : Rat := (tcRaw : Rat) / 4

/-- The temperature an `f_raw` stands for, in degree F (R13, R75). -/
def fahrenheitDegrees (fRaw : Int) : Rat := (fRaw : Rat) / 20

end Sys2Proof.Machine
end

