-- ==== Sys2Proof/Machine/Ops.lean ====
section
/-! DEFINITION. The named operations every command is made of: the command port, the event trace, the two registers, the
shared sub-sequences of 41_commands.md section 2, and the one way every illegal word ends (R83). The block takes no
exception and returns from none (R103, R104); its errors are responses. -/

namespace Sys2Proof.Machine

/-! ### The command port (R24, R25) -/

/-- The word the host presents now, none while it presents nothing (R25, R115). -/
def State.presented (s : State) : Option CommandWord := s.commands.head?

/-- The presented word is taken off the port. -/
def State.takeCommand (s : State) : State := { s with commands := s.commands.tail }

/-- The host presents `w` before any word it was to present next. -/
def State.present (w : CommandWord) (s : State) : State := { s with commands := w :: s.commands }

/-- `respond(status, fbits, kind, value)` (R12, R62). -/
def State.respond (status : Status) (fbits kind : BitVec 3) (value : Int) (s : State) : State :=
  { s with responses := s.responses ++ [responseWord status fbits kind value] }

/-! ### Registers -/

/-- `INIT <- 1`: the only value ever written (R17). -/
def State.markReady (s : State) : State := { s with init := 1#1 }

/-- `MASK <- v` (R18). -/
def State.writeMask (v : BitVec 3) (s : State) : State := { s with mask := v }

/-! ### Port events -/

/-- `emit E` (R12). -/
def State.emit (e : PortEvent) (s : State) : State := { s with trace := s.trace ++ [e] }

/-- `emit Nops(N_EDGE_NOPS)`, also when the count is 0 (R87). -/
def State.emitNops (s : State) : State := s.emit (.nops s.params.nEdgeNops)

/-- `emit DelayMs(T_SETTLE_MS)`, also when the count is 0 (R87). -/
def State.emitDelay (s : State) : State := s.emit (.delayMs s.params.tSettleMs)

/-- `emit GpioSet(CS_PIN, level)`. -/
def State.driveCs (level : Level) (s : State) : State := s.emit (.gpioSet s.params.csPin level)

/-- `PinFunc` for each pair of a list, in list order (R84). -/
def State.assignPins : List (PinId × PinRole) → State → State
  | [], s => s
  | (pin, role) :: rest, s => State.assignPins rest (s.emit (.pinFunc pin role))

/-- The transport's answer to the next `Xfer`: the next one listed, and a free value where none is (R26). The free value
has the instance's stream and its draw count as arguments, so that draws are tied neither within an instance nor across
the instances of a platform (U9); this form of a free draw is the model's choice (DESIGN CHOICE, log entry 3). -/
def State.nextAnswer (s : State) : TransportAnswer :=
  match s.answers with
  | a :: _ => a
  | [] => Config.freeAnswer s.stream s.draws

/-- The same instance, drawing from stream `k` (log entry 3). -/
def State.onStream (k : Nat) (s : State) : State := { s with stream := k }

/-- `(ok, rx) <- Xfer(PERIPH_ID, 0x00, 4)`, the state part: the event is emitted and one answer is used up (R26, R33,
R34). The answer is `s.nextAnswer`. -/
def State.xfer (s : State) : State :=
  let e := s.emit (.xfer s.params.periphId Config.txByte Config.frameBytes)
  { e with answers := s.answers.tail, draws := s.draws + 1 }

/-! ### Shared sub-sequences -/

/-- `BeginActions()` (R84). -/
def State.beginActions (s : State) : State :=
  ((((s.emit (.busInit s.params.periphId s.params.baud)).assignPins s.params.spiPins).emit
    (.gpioOut s.params.csPin)).driveCs .high).markReady

/-- `EnsureReady()`, lazy initialisation (R88). -/
def State.ensureReady (s : State) : State := if s.init = 0#1 then s.beginActions else s

/-- `Acquire()`, the state part: nine events, chip select released whatever the answer (R87). -/
def State.acquire (s : State) : State :=
  s.emitNops |>.driveCs .low |>.emitNops |>.emitDelay |>.xfer
    |>.emitNops |>.driveCs .high |>.emitNops |>.emitDelay

/-- What `ReadFrame()` returns (R92). -/
inductive ReadResult where
  | noData
  | frame (f : Frame)
  deriving DecidableEq, Repr

/-- The result of `ReadFrame()` for a transport's answer (R85, R87, R92). -/
def readResult (p : Params) (a : TransportAnswer) : ReadResult :=
  if noData p.zeroIsNodata a.ok (acquiredFrame a) then .noData else .frame (acquiredFrame a)

/-- `ReadFrame()`, the state part: `EnsureReady` then `Acquire` (R92). -/
def State.readFrame (s : State) : State := s.ensureReady.acquire

/-- A read command: `ReadFrame()`, then NODATA or the response `reply` gives for the frame (R93 to R96). -/
def State.readCommand (reply : Frame → State → State) (s : State) : State :=
  match readResult s.params s.ensureReady.nextAnswer with
  | .noData => s.readFrame.respond .noData 0#3 0#3 0
  | .frame f => reply f s.readFrame

/-- The reply of a thermocouple read: FAULT with the masked bits, or OK with the number (R94, R95). -/
def State.replyTc (r : TcResult) (s : State) : State :=
  match r with
  | .fault fb => s.respond .fault fb 0#3 0
  | .ok n => s.respond .ok 0#3 0#3 n

/-- ILLEGAL: the response to every illegal word, and no other effect (R83, R101). -/
def illegalCommand (s : State) : Host.Outcome State Fault Refusal := .next (s.respond .illegal 0#3 0#3 0)

/-! ### What the trace says of the collaborators (R27, R29) -/

/-- The level a trace last drove a pin to; none where it never did, when nothing is known of the level (U1). -/
def lastLevel (pin : PinId) : List PortEvent → Option Level
  | [] => none
  | .gpioSet p l :: rest => (lastLevel pin rest).or (if p = pin then some l else none)
  | _ :: rest => lastLevel pin rest

/-- The level the block last drove its chip-select pin to (R27). -/
def State.csLevel (s : State) : Option Level := lastLevel s.params.csPin s.trace

/-- Has the block initialised its bus peripheral? (R29 "not active until the first BEGIN or lazy init") -/
def State.busActive (s : State) : Bool := s.trace.contains (.busInit s.params.periphId s.params.baud)

end Sys2Proof.Machine
end

