-- ==== Sys2Proof/Machine/Configuration.lean ====
section
/-! DEFINITION. The configuration commands: BEGIN, SET_MASK, GET_CONFIG (41_commands.md section 3). None of them acquires
a frame or initialises lazily. -/

namespace Sys2Proof.Machine

/-- BEGIN: `BeginActions(); respond(OK, 0, 0, 0)`, also when `INIT` is 1 already (R89). -/
def execBegin (s : State) : Host.Outcome State Fault Refusal := .next (s.beginActions.respond .ok 0#3 0#3 0)

/-- SET_MASK: `MASK <- m[2:0]; respond(OK, 0, 0, 0)` (R90). -/
def execSetMask (m : BitVec 8) (s : State) : Host.Outcome State Fault Refusal :=
  .next ((s.writeMask (maskOperand m)).respond .ok 0#3 0#3 0)

/-- The result of GET_CONFIG: `(INIT << 3) | MASK` (R64, R91). -/
def configValue (s : State) : Nat := (s.init.toNat <<< 3) ||| s.mask.toNat

/-- GET_CONFIG: `respond(OK, 0, 0, (INIT << 3) | MASK)` (R91). -/
def execGetConfig (s : State) : Host.Outcome State Fault Refusal := .next (s.respond .ok 0#3 0#3 (configValue s))

end Sys2Proof.Machine
end

