-- ==== Sys2Proof/Machine/Reads.lean ====
section
/-! DEFINITION. The read commands (41_commands.md section 4). Each makes exactly one acquisition, of its own frame. -/

namespace Sys2Proof.Machine

/-- READ_INTERNAL: OK with `decode_internal(f)`, or NODATA; neither the fault bits nor `MASK` matter (R93). -/
def execReadInternal (s : State) : Host.Outcome State Fault Refusal :=
  .next (s.readCommand fun f t => t.respond .ok 0#3 0#3 (decodeInternal f))

/-- READ_CELSIUS: the reply of `celsius(f, MASK)`, or NODATA (R94). -/
def execReadCelsius (s : State) : Host.Outcome State Fault Refusal :=
  .next (s.readCommand fun f t => t.replyTc (celsius f t.mask))

/-- READ_FAHRENHEIT: the reply of `fahrenheit(f, MASK)`, or NODATA (R95). -/
def execReadFahrenheit (s : State) : Host.Outcome State Fault Refusal :=
  .next (s.readCommand fun f t => t.replyTc (fahrenheit f t.mask))

/-- READ_FAULT: OK with the unmasked fault code and its kind, or NODATA; a fault code is no FAULT status (R96). -/
def execReadFault (s : State) : Host.Outcome State Fault Refusal :=
  .next (s.readCommand fun f t =>
    t.respond .ok 0#3 (kindCode (classify (faultCode f))) ((faultCode f).toNat))

end Sys2Proof.Machine
end

