-- ==== Sys2Proof/Machine/Dispatch.lean ====
section
/-! DEFINITION. The case selection of R82: one arm for each command. -/

namespace Sys2Proof.Machine

/-- What a command does to the state (R82). -/
def exec (i : Instr) (s : State) : Host.Outcome State Fault Refusal :=
  match i with
  | .begin => Sys2Proof.Machine.execBegin s
  | .setMask m => Sys2Proof.Machine.execSetMask m s
  | .readInternal => Sys2Proof.Machine.execReadInternal s
  | .readCelsius => Sys2Proof.Machine.execReadCelsius s
  | .readFahrenheit => Sys2Proof.Machine.execReadFahrenheit s
  | .readFault => Sys2Proof.Machine.execReadFault s
  | .getConfig => Sys2Proof.Machine.execGetConfig s

end Sys2Proof.Machine
end

