-- ==== Sys2Proof/Machine/Step.lean ====
section
/-! DEFINITION. One step: one host command from its word to its response (R7, R25, R82, R97). -/

namespace Sys2Proof.Machine

/-- One step. With no word presented the block is idle and holds its state (R112, R115). A presented word is taken off
the port; a legal one is executed, an illegal one gets the ILLEGAL response, the legality check before any effect
(R82, R102). -/
def step (s : State) : Host.Outcome State Fault Refusal :=
  match s.presented with
  | none => .next s
  | some w =>
    match decode w with
    | some i => exec i s.takeCommand
    | none => illegalCommand s.takeCommand

/-- The state in which the word in the low `nbits` bits of `w` is the one the host presents next: the command port is
where the block's instructions come from (R21, R43). -/
def State.withFetchWord (s : State) (nbits w : Nat) : State := s.present (wordOfBits nbits w)

end Sys2Proof.Machine
end

