-- ==== Sys2Proof/Machine/Assembler.lean ====
section
/-! DEFINITION. The assembler's notation (R60, R61): one command a line, and from it a command word. What R60 leaves
open of the notation is in log entry 7. -/

namespace Sys2Proof.Machine

/-- The mnemonics, in upper case (R56, R60). -/
def mnemonicName : Mnemonic → String
  | .begin => "BEGIN"
  | .setMask => "SET_MASK"
  | .readInternal => "READ_INTERNAL"
  | .readCelsius => "READ_CELSIUS"
  | .readFahrenheit => "READ_FAHRENHEIT"
  | .readFault => "READ_FAULT"
  | .getConfig => "GET_CONFIG"

/-- All mnemonics. -/
def allMnemonics : List Mnemonic :=
  [.begin, .setMask, .readInternal, .readCelsius, .readFahrenheit, .readFault, .getConfig]

/-- The mnemonic a token spells. -/
def readMnemonic (token : List Char) : Option Mnemonic :=
  allMnemonics.find? fun m => (mnemonicName m).toList == token

/-- The value of one digit in a base, none where the character is no digit of it. -/
def digitValue (base : Nat) (c : Char) : Option Nat :=
  let v :=
    if '0' ≤ c ∧ c ≤ '9' then some (c.toNat - '0'.toNat)
    else if 'a' ≤ c ∧ c ≤ 'f' then some (c.toNat - 'a'.toNat + 10)
    else if 'A' ≤ c ∧ c ≤ 'F' then some (c.toNat - 'A'.toNat + 10)
    else none
  v.filter (· < base)

/-- The number the digits stand for after `acc`. -/
def readDigits (base acc : Nat) : List Char → Option Nat
  | [] => some acc
  | c :: rest =>
    match digitValue base c with
    | some d => readDigits base (acc * base + d) rest
    | none => none

/-- At least one digit. -/
def readNatural (base : Nat) (digits : List Char) : Option Nat :=
  if digits.isEmpty then none else readDigits base 0 digits

/-- A number: decimal, `0x` hex or `0b` binary (R60). -/
def readNumber : List Char → Option Nat
  | '0' :: 'x' :: digits => readNatural 16 digits
  | '0' :: 'b' :: digits => readNatural 2 digits
  | digits => readNatural 10 digits

/-- An operand: a number, or one of the names of R61. -/
def readOperand (token : List Char) : Option Nat :=
  if token = "FAULT_ALL".toList then some 0x07
  else if token = "FAULT_NONE".toList then some 0x00
  else readNumber token

/-- The characters that separate tokens (log entry 7). -/
def isBlank (c : Char) : Bool := c == ' ' || c == '\t' || c == '\r' || c == '\n'

/-- The tokens of a text; `cur` is the token being read, reversed. -/
def tokenize (cur : List Char) : List Char → List (List Char)
  | [] => if cur.isEmpty then [] else [cur.reverse]
  | c :: rest =>
    if isBlank c then
      if cur.isEmpty then tokenize [] rest else cur.reverse :: tokenize [] rest
    else tokenize (c :: cur) rest

/-- A `;` starts a comment that runs to the end of the line (R60). -/
def dropComment (line : List Char) : List Char := line.takeWhile (· != ';')

/-- What a line is: nothing (log entry 7), a command word, or an error. -/
inductive AsmLine where
  | empty
  | word (w : CommandWord)
  | error
  deriving DecidableEq, Repr

/-- The command a well-formed source command stands for. -/
def asmInstr (c : AsmCommand) : Instr :=
  match c.mnemonic with
  | .begin => .begin
  | .setMask => .setMask (BitVec.ofNat 8 (c.operand.getD 0))
  | .readInternal => .readInternal
  | .readCelsius => .readCelsius
  | .readFahrenheit => .readFahrenheit
  | .readFault => .readFault
  | .getConfig => .getConfig

/-- The word of a source command; an ill-formed one is rejected (R60). -/
def assemble (c : AsmCommand) : AsmLine := if c.wellFormed then .word (encode (asmInstr c)) else .error

/-- The line's tokens, as a command: a mnemonic and at most one operand. -/
def assembleTokens : List (List Char) → AsmLine
  | [] => .empty
  | [m] =>
    match readMnemonic m with
    | some mn => assemble ⟨mn, none⟩
    | none => .error
  | [m, o] =>
    match readMnemonic m, readOperand o with
    | some mn, some n => assemble ⟨mn, some n⟩
    | _, _ => .error
  | _ => .error

/-- One line of source (R60). -/
def assembleLine (line : String) : AsmLine := assembleTokens (tokenize [] (dropComment line.toList))

end Sys2Proof.Machine
end

