-- ==== Sys2Proof/Machine/Platform.lean ====
section
/-! DEFINITION. Several instances side by side on one platform (R110). Each has its own state; the host lets one command
of one instance run to its response before any other, so it has no move that overlaps two transactions (R110, R124,
log entry 6). -/

namespace Sys2Proof.Machine

/-- The instances of a platform, and the port events of all of them in the order they occurred, each with the number of
the instance that emitted it. -/
structure Platform where
  instances : List State
  bus : List (Nat × PortEvent)
  deriving DecidableEq, Repr

/-- The events `t` has emitted beyond `s`, tagged with the instance number `k`. -/
def newEvents (k : Nat) (s t : State) : List (Nat × PortEvent) :=
  (t.trace.drop s.trace.length).map fun e => (k, e)

/-- The host lets instance `k` perform its next command. The instance draws from stream `k`, its own, so that no two
instances share a draw (R110, U9, log entry 3). Where there is no instance `k` the host has no such move and nothing
happens. -/
def Platform.stepInstance (k : Nat) (p : Platform) : Host.Outcome Platform Fault Refusal :=
  match p.instances[k]? with
  | none => .next p
  | some s =>
    match step (s.onStream k) with
    | .next t => .next { instances := p.instances.set k t, bus := p.bus ++ newEvents k s t }
    | .fault r => .fault r
    | .refused r => .refused r

end Sys2Proof.Machine
end

