-- ==== Sys2Proof/Safety.lean ====
section
/-! DEFINITION. What counts as a safe run, in the terms the claims use: the discipline of the chip-select line and of the
transport, the form of a response, and what the trace must say of `INIT`. -/

namespace Sys2Proof.Safety

open Sys2Proof.Machine

/-- The port events of `BeginActions` (R84; 95_test_vectors.md V10). -/
def beginTrace (p : Params) : List PortEvent :=
  [.busInit p.periphId p.baud] ++ (p.spiPins.map fun x => .pinFunc x.1 x.2) ++
    [.gpioOut p.csPin, .gpioSet p.csPin .high]

/-- The nine port events of an acquisition (R87; 95_test_vectors.md V10). -/
def acquireTrace (p : Params) : List PortEvent :=
  [.nops p.nEdgeNops, .gpioSet p.csPin .low, .nops p.nEdgeNops, .delayMs p.tSettleMs, .xfer p.periphId 0x00#8 4,
   .nops p.nEdgeNops, .gpioSet p.csPin .high, .nops p.nEdgeNops, .delayMs p.tSettleMs]

/-- The port events of a read command: lazy initialisation where `INIT` is 0, then one acquisition (R88, R92). -/
def readTrace (s : State) : List PortEvent :=
  (if s.init = 0#1 then beginTrace s.params else []) ++ acquireTrace s.params

/-- Where a bus transaction stands: chip select released; driven low with no transfer yet; or low with the one transfer
made (R34, R39, R87). -/
inductive CsPhase where
  | released
  | selected
  | transferred
  deriving DecidableEq, Repr

/-- What each event may follow (R33, R34, R39). While chip select is low only the settle events, the one 4-byte
transfer of zeros to this instance's peripheral, and the release may occur. -/
def csStep (p : Params) : CsPhase → PortEvent → Option CsPhase
  | ph, .nops _ => some ph
  | ph, .delayMs _ => some ph
  | .released, .busInit _ _ => some .released
  | .released, .pinFunc _ _ => some .released
  | .released, .gpioOut _ => some .released
  | .released, .gpioSet pin .high => if pin = p.csPin then some .released else none
  | .released, .gpioSet pin .low => if pin = p.csPin then some .selected else none
  | .selected, .xfer periph tx len =>
    if periph = p.periphId ∧ tx = 0x00#8 ∧ len = 4 then some .transferred else none
  | .transferred, .gpioSet pin .high => if pin = p.csPin then some .released else none
  | _, _ => none

/-- The phase after a list of events, none where one of them breaks the discipline. -/
def csScan (p : Params) (ph : CsPhase) : List PortEvent → Option CsPhase
  | [] => some ph
  | e :: rest =>
    match csStep p ph e with
    | some ph' => csScan p ph' rest
    | none => none

/-- Every transaction of the trace is one chip-select-bracketed 4-byte transfer, and none is left open. -/
abbrev BusDisciplined (s : State) : Prop := csScan s.params .released s.trace = some .released

/-- Is an event an `Xfer`? -/
def isXfer : PortEvent → Bool
  | .xfer _ _ _ => true
  | _ => false

/-- The number of `Xfer`s of a list of events. -/
def xferCount (l : List PortEvent) : Nat := l.countP isXfer

/-- The form of every response word: bits 31:8 are 0; `value` and `kind` are 0 unless the status is OK; `fbits` is
non-zero exactly on FAULT; `kind` is one of the five codes; `value` lies in the range of the widest command
(R54, R62, R64, D27). -/
abbrev ResponseWellFormed (w : ResponseWord) : Prop :=
  respReserved w = 0#24 ∧
  (respStatus w ≠ 0#2 → respKind w = 0#3 ∧ respValue w = 0) ∧
  (respFbits w ≠ 0#3 ↔ respStatus w = 1#2) ∧
  respKind w ≤ 4#3 ∧
  -73088 ≤ respValue w ∧ respValue w ≤ 74359

/-- What `INIT` says of the ports: while it is 0 no event has been emitted; once it is 1 the bus has been initialised
and the last level the block drove chip select to is high (R27, R29, R114). -/
abbrev InitMatchesTrace (s : State) : Prop :=
  (s.init = 0#1 → s.trace = []) ∧ (s.init = 1#1 → s.busActive = true ∧ s.csLevel = some .high)

/-- One answer is used up for each `Xfer`, and each `Xfer` belongs to a command that has its response (R25, R26, R40). -/
abbrev DrawsMatchTrace (s : State) : Prop := s.draws = xferCount s.trace ∧ s.draws ≤ s.responses.length

/-- Who holds the shared bus after an event: an instance takes it by driving chip select low and gives it back by
driving it high; while it is held, no other instance emits an event (R39, R110, R124). -/
def ownerStep : Option Nat → Nat × PortEvent → Option (Option Nat)
  | none, (k, .gpioSet _ .low) => some (some k)
  | none, (_, _) => some none
  | some j, (k, .gpioSet _ .high) => if k = j then some none else none
  | some _, (_, .gpioSet _ .low) => none
  | some j, (k, _) => if k = j then some (some j) else none

/-- The owner after a list of tagged events, none where two instances interleave. -/
def ownerScan (o : Option Nat) : List (Nat × PortEvent) → Option (Option Nat)
  | [] => some o
  | e :: rest =>
    match ownerStep o e with
    | some o' => ownerScan o' rest
    | none => none

/-- No two transactions of the platform overlap, and the bus is free between commands. -/
abbrev BusExclusive (p : Platform) : Prop := ownerScan none p.bus = some none

/-- The events of instance `k` on the shared bus are exactly its own trace, in order. -/
abbrev BusAgrees (p : Platform) : Prop :=
  ∀ k s, p.instances[k]? = some s → (p.bus.filter fun e => e.1 = k).map (fun e => e.2) = s.trace

end Sys2Proof.Safety
end

