-- ==== Sys2Proof/Certificates/Slice0/Obligations.lean ====
section
/-! DEFINITION. The statements for the provers. Where a statement rests on a free value (the transport's answer to the
next `Xfer`, `State.nextAnswer`), it holds for every value of it. -/

namespace Sys2Proof.Claims

open Sys2Proof.Machine Sys2Proof.Safety

/-- R58, its three conditions, on the fields of R55. -/
abbrev IllegalWord (w : CommandWord) : Prop :=
  (w.extractLsb' 0 4 = 0x0#4 ∨ 0x8#4 ≤ w.extractLsb' 0 4) ∨ w.extractLsb' 4 4 ≠ 0#4 ∨
    (w.extractLsb' 0 4 ≠ 0x2#4 ∧ w.extractLsb' 8 8 ≠ 0#8)

/-- The response word with the fields of R62, the most significant first. -/
def word (value : BitVec 32) (kind fbits : BitVec 3) (status : BitVec 2) : ResponseWord :=
  value ++ 0#24 ++ kind ++ fbits ++ status

/-- The response NODATA (R98). -/
def noDataWord : ResponseWord := word 0#32 0#3 0#3 2#2

/-- The response ILLEGAL (R83). -/
def illegalWord : ResponseWord := word 0#32 0#3 0#3 3#2

/-- The read commands (R92). -/
def isRead : Instr → Bool
  | .readInternal => true
  | .readCelsius => true
  | .readFahrenheit => true
  | .readFault => true
  | .begin => false
  | .setMask _ => false
  | .getConfig => false

/-- Is a decoded word a SET_MASK? -/
def isSetMask : Option Instr → Bool
  | some (.setMask _) => true
  | _ => false

/-- The frame the next acquisition yields: the four bytes, the first the most significant, or 0 (R36, R37). -/
def drawnFrame (s : State) : Frame :=
  let a := s.nextAnswer
  if a.ok then a.rx0 ++ a.rx1 ++ a.rx2 ++ a.rx3 else 0#32

/-- The no-data test of the next acquisition (R85). -/
abbrev NoData (s : State) : Prop :=
  s.nextAnswer.ok = false ∨ (s.params.zeroIsNodata = true ∧ drawnFrame s = 0#32)

/-- The state after a read command that returned `w`: `INIT` 1, one answer used up, the trace of the command emitted,
one response returned, all else as before (R92 to R96). -/
def afterRead (s : State) (w : ResponseWord) : State :=
  { s with
    init := 1#1, answers := s.answers.tail, draws := s.draws + 1, trace := s.trace ++ readTrace s,
    responses := s.responses ++ [w] }

/-- The response a command returned last. -/
def lastResponse (s : State) : ResponseWord := s.responses.getLastD 0#64

/-- The status a command returned last. -/
def lastStatus (s : State) : BitVec 2 := respStatus (lastResponse s)

/-- The kind code of a fault code (R51, R54). -/
def kindOf (code : BitVec 3) : BitVec 3 :=
  if code = 0#3 then 0#3 else if code = 1#3 then 1#3 else if code = 2#3 then 2#3 else if code = 4#3 then 3#3 else 4#3

/-- The READ_CELSIUS response for a frame under a mask (R73, R94). -/
def celsiusWord (f : Frame) (mask : BitVec 3) : ResponseWord :=
  if f.extractLsb' 0 3 &&& mask ≠ 0#3 then word 0#32 0#3 (f.extractLsb' 0 3 &&& mask) 1#2
  else word ((f.extractLsb' 18 14).signExtend 32) 0#3 0#3 0#2

end Sys2Proof.Claims

open Sys2Proof Sys2Proof.Machine Sys2Proof.Safety Sys2Proof.Claims

/-! ### Command words -/

/-- The words of R56, and the verdicts of 95_test_vectors.md V8. -/
def Obligations.CommandWordsDecodeAsTheOpcodeMapSays : Prop :=
  decode 0x0001#16 = some .begin ∧ decode 0x0702#16 = some (.setMask 0x07#8) ∧ decode 0xFF02#16 = some (.setMask 0xFF#8) ∧
  decode 0x0003#16 = some .readInternal ∧ decode 0x0004#16 = some .readCelsius ∧
  decode 0x0005#16 = some .readFahrenheit ∧ decode 0x0006#16 = some .readFault ∧ decode 0x0007#16 = some .getConfig ∧
  decode 0x0000#16 = none ∧ decode 0x0008#16 = none ∧ decode 0x000F#16 = none ∧ decode 0x0014#16 = none ∧
  decode 0x0104#16 = none ∧ decode 0x0112#16 = none

/-- Every command, with every operand, comes back from its word, and each legal word stands for one command only. -/
def Obligations.DecodeAndEncodeAgreeBothWays : Prop :=
  ∀ (w : CommandWord) (i : Instr), decode w = some i ↔ encode i = w

/-- R66: the word is illegal by R58, or a row of the table selects it, and SET_MASK takes bits 15:8. -/
def Obligations.DecoderIsTheOpcodeTable : Prop :=
  ∀ w : CommandWord,
    (decode w = none ↔ IllegalWord w) ∧
    (decode w = some .begin ↔ w &&& 0xFFFF#16 = 0x0001#16) ∧
    (∀ m, decode w = some (.setMask m) ↔ w &&& 0x00FF#16 = 0x0002#16 ∧ m = w.extractLsb' 8 8) ∧
    (decode w = some .readInternal ↔ w &&& 0xFFFF#16 = 0x0003#16) ∧
    (decode w = some .readCelsius ↔ w &&& 0xFFFF#16 = 0x0004#16) ∧
    (decode w = some .readFahrenheit ↔ w &&& 0xFFFF#16 = 0x0005#16) ∧
    (decode w = some .readFault ↔ w &&& 0xFFFF#16 = 0x0006#16) ∧
    (decode w = some .getConfig ↔ w &&& 0xFFFF#16 = 0x0007#16) ∧
    ((decode w).isSome = true ↔ (opcodeTable.filter fun r => r.selects w).length = 1)

/-- The count R58 derives from R55 and R56: 262 legal words, 256 of them SET_MASK, and one word for each other
command. -/
def Obligations.LegalWordsNumber262 : Prop :=
  (∃ l : List CommandWord, l.Nodup ∧ (∀ w, w ∈ l ↔ (decode w).isSome = true) ∧
    l.length = 262 ∧ l.countP (fun w => isSetMask (decode w)) = 256) ∧
  (∀ i : Instr, isSetMask (some i) = false → ∃ w, ∀ v, decode v = some i ↔ v = w)

/-- R58, R83: which words are illegal, and that an illegal word changes nothing but its response. -/
def Obligations.IllegalWordsOnlyGetTheIllegalResponse : Prop :=
  (∀ w : CommandWord, decode w = none ↔ IllegalWord w) ∧
  ∀ (s : State) (w : CommandWord) (rest : List CommandWord), s.commands = w :: rest → IllegalWord w →
    step s = .next { s with commands := rest, responses := s.responses ++ [illegalWord] }

/-! ### The step -/

/-- A step is `exec` of the decoded command at the state whose command port has given up the word (R82, R97). That a
step with no word presented answers the same state is the model's choice (DESIGN CHOICE, log entry 9). -/
def Obligations.StepRunsTheDecodedCommand : Prop :=
  (∀ (s : State) (w : CommandWord) (rest : List CommandWord) (i : Instr),
    s.commands = w :: rest → decode w = some i → step s = exec i { s with commands := rest }) ∧
  (∀ s : State, s.commands = [] → step s = .next s)

/-- R82, case by case: legality first, then selection by `w[3:0]`. -/
def Obligations.DispatchSelectsByOpcode : Prop :=
  ∀ (s : State) (w : CommandWord) (rest : List CommandWord), s.commands = w :: rest →
    step s =
      (let t : State := { s with commands := rest }
       if IllegalWord w then .next { t with responses := s.responses ++ [illegalWord] }
       else if w.extractLsb' 0 4 = 0x1#4 then exec .begin t
       else if w.extractLsb' 0 4 = 0x2#4 then exec (.setMask (w.extractLsb' 8 8)) t
       else if w.extractLsb' 0 4 = 0x3#4 then exec .readInternal t
       else if w.extractLsb' 0 4 = 0x4#4 then exec .readCelsius t
       else if w.extractLsb' 0 4 = 0x5#4 then exec .readFahrenheit t
       else if w.extractLsb' 0 4 = 0x6#4 then exec .readFault t
       else exec .getConfig t)

/-- Every presented word, legal or not, is answered with exactly one response, and only it is taken off the port. -/
def Obligations.EveryPresentedWordGetsOneResponse : Prop :=
  ∀ (s : State) (w : CommandWord) (rest : List CommandWord), s.commands = w :: rest →
    ∃ t r evs, step s = .next t ∧ t.commands = rest ∧ t.responses = s.responses ++ [r] ∧ t.trace = s.trace ++ evs

/-- From any state, as many steps as words are presented answer them all, one response each, with the parameters kept
(R19). -/
def Obligations.RunAnswersEveryPresentedWord : Prop :=
  ∀ s : State, ∃ t : State, core.run s.commands.length s = .next t ∧ t.commands = [] ∧
    t.responses.length = s.responses.length + s.commands.length ∧ t.params = s.params

/-! ### Reset -/

/-- R114: the values at construction for any parameters; no step changes a parameter; and no step emits an event unless
it leaves `INIT` 1. -/
def Obligations.ResetValuesAndSilenceUntilReady : Prop :=
  (∀ p : Params, (State.construct p).init = 0#1 ∧ (State.construct p).mask = 0b111#3 ∧ (State.construct p).params = p ∧
    (State.construct p).trace = [] ∧ (State.construct p).busActive = false ∧ (State.construct p).csLevel = none) ∧
  (∀ s t : State, step s = .next t → t.params = s.params) ∧
  (∀ s t : State, step s = .next t → t.init = 0#1 → t.trace = s.trace)

/-- The host's reset state is a construction, with the parameters log entry 1 names (the model's choice, of which this
says only that `BAUD` is positive); it presents no word and has returned none. -/
def Obligations.ResetIsAConstruction : Prop :=
  State.reset = State.construct State.reset.params ∧ State.reset.params.wellFormed = true ∧
  State.reset.commands = [] ∧ State.reset.responses = []

/-- Every constructed instance, whatever its parameters, meets the invariants stated below. For `DrawsMatchTrace` this
rests on the draw counter starting at 0 and on the empty lists of trace and responses, the first of which is the model's
choice (DESIGN CHOICE, log entry 3). -/
def Obligations.ConstructionMeetsTheInvariants : Prop :=
  ∀ p : Params, BusDisciplined (State.construct p) ∧ InitMatchesTrace (State.construct p) ∧
    DrawsMatchTrace (State.construct p) ∧ (∀ w ∈ (State.construct p).responses, ResponseWellFormed w)

/-- R116: once `INIT` is 1 no step makes it 0, and a step changes `MASK` only by SET_MASK. -/
def Obligations.ReadyIsForeverAndOnlySetMaskChangesMask : Prop :=
  ∀ s t : State, step s = .next t →
    (s.init = 1#1 → t.init = 1#1) ∧
    (t.mask ≠ s.mask → ∃ m, s.commands.head? = some (encode (.setMask m)) ∧ t.mask = m.extractLsb' 0 3)

/-! ### The commands -/

/-- R89 with the action list of R84, in either state. -/
def Obligations.BeginPerformsTheBeginActions : Prop :=
  encode .begin = 0x0001#16 ∧
  ∀ s : State, exec .begin s =
    .next { s with
      init := 1#1
      trace := s.trace ++ ([PortEvent.busInit s.params.periphId s.params.baud] ++
        (s.params.spiPins.map fun x => PortEvent.pinFunc x.1 x.2) ++
        [PortEvent.gpioOut s.params.csPin, PortEvent.gpioSet s.params.csPin .high])
      responses := s.responses ++ [0x0000000000000000#64] }

/-- R90, R18: only `MASK` is written, with the operand's low three bits, in either state. -/
def Obligations.SetMaskWritesOperandLowBits : Prop :=
  ∀ (m : BitVec 8) (s : State),
    encode (.setMask m) = m ++ 0x02#8 ∧
    exec (.setMask m) s =
      .next { s with mask := m.extractLsb' 0 3, responses := s.responses ++ [0x0000000000000000#64] }

/-- R91: `value` is `INIT` in bit 3 above `MASK`, and nothing else changes. -/
def Obligations.GetConfigReturnsInitAndMask : Prop :=
  encode .getConfig = 0x0007#16 ∧
  ∀ s : State, exec .getConfig s =
    .next { s with responses := s.responses ++ [word (0#28 ++ s.init ++ s.mask) 0#3 0#3 0#2] }

/-- R93: the sign-extended internal field, whatever the fault bits and `MASK`. -/
def Obligations.ReadInternalReturnsTheInternalField : Prop :=
  encode .readInternal = 0x0003#16 ∧
  ∀ s : State, exec .readInternal s =
    .next (afterRead s (if NoData s then noDataWord
      else word (((drawnFrame s).extractLsb' 4 12).signExtend 32) 0#3 0#3 0#2))

/-- R94: the enforced fault bits, or the sign-extended thermocouple field. -/
def Obligations.ReadCelsiusReturnsFaultOrThermocouple : Prop :=
  encode .readCelsius = 0x0004#16 ∧
  ∀ s : State, exec .readCelsius s =
    .next (afterRead s (if NoData s then noDataWord else celsiusWord (drawnFrame s) s.mask))

/-- R95: the enforced fault bits, or nine times the thermocouple field plus 640, in 32-bit arithmetic. -/
def Obligations.ReadFahrenheitReturnsFaultOrConverted : Prop :=
  encode .readFahrenheit = 0x0005#16 ∧
  ∀ s : State, exec .readFahrenheit s =
    .next (afterRead s (if NoData s then noDataWord
      else if (drawnFrame s).extractLsb' 0 3 &&& s.mask ≠ 0#3 then
        word 0#32 0#3 ((drawnFrame s).extractLsb' 0 3 &&& s.mask) 1#2
      else word (9#32 * ((drawnFrame s).extractLsb' 18 14).signExtend 32 + 640#32) 0#3 0#3 0#2))

/-- R96: the unmasked code and its kind, with status OK whatever the code. -/
def Obligations.ReadFaultReturnsCodeAndKind : Prop :=
  encode .readFault = 0x0006#16 ∧
  ∀ s : State, exec .readFault s =
    .next (afterRead s (if NoData s then noDataWord
      else word (((drawnFrame s).extractLsb' 0 3).setWidth 32) (kindOf ((drawnFrame s).extractLsb' 0 3)) 0#3 0#2))

/-- The frame of every command: which registers and ports it may change, and to what; nothing else changes. The fields
`stream` and `draws` are the model's own (log entry 3). -/
def Obligations.EveryCommandHasItsFrame : Prop :=
  ∀ (i : Instr) (s : State), ∃ t r evs, exec i s = .next t ∧
    t.params = s.params ∧ t.commands = s.commands ∧ t.stream = s.stream ∧
    t.mask = (match i with | .setMask m => m.extractLsb' 0 3 | _ => s.mask) ∧
    t.init = (if isRead i = true ∨ i = .begin then 1#1 else s.init) ∧
    t.answers = (if isRead i = true then s.answers.tail else s.answers) ∧
    t.draws = (if isRead i = true then s.draws + 1 else s.draws) ∧
    t.responses = s.responses ++ [r] ∧ t.trace = s.trace ++ evs ∧
    evs = (if isRead i = true then readTrace s else if i = .begin then beginTrace s.params else [])

/-- One acquisition for each read command, none for any other. -/
def Obligations.OneTransferForEachRead : Prop :=
  ∀ (i : Instr) (s : State), ∃ t evs, exec i s = .next t ∧ t.trace = s.trace ++ evs ∧
    xferCount evs = (if isRead i = true then 1 else 0)

/-! ### The decode functions -/

/-- R36: which byte is which part of the frame. -/
def Obligations.FrameBytesAreBigEndian : Prop :=
  ∀ a : TransportAnswer, a.ok = true →
    acquiredFrame a = a.rx0 ++ a.rx1 ++ a.rx2 ++ a.rx3 ∧
    (acquiredFrame a).toNat = a.rx0.toNat * 2 ^ 24 + a.rx1.toNat * 2 ^ 16 + a.rx2.toNat * 2 ^ 8 + a.rx3.toNat

/-- R68: the pseudocode of R67 is `sext_12` of the field, and its range. -/
def Obligations.InternalIsSignExtendedField : Prop :=
  ∀ f : Frame, decodeInternal f = (f.extractLsb' 4 12).toInt ∧ -2048 ≤ decodeInternal f ∧ decodeInternal f ≤ 2047

/-- R72: the pseudocode of R71 is `sext_14` of the field, and its range. -/
def Obligations.ThermocoupleIsSignExtendedField : Prop :=
  ∀ f : Frame, decodeTc f = (f.extractLsb' 18 14).toInt ∧ -8192 ≤ decodeTc f ∧ decodeTc f ≤ 8191

/-- R70: the masked bits, as the whole frame ANDed with the mask gives them, and the three corner cases. -/
def Obligations.FaultCheckMasksTheRawFrame : Prop :=
  ∀ (f : Frame) (mask : BitVec 3),
    maskedFaults f mask = f.extractLsb' 0 3 &&& mask ∧
    (faulted f mask = true ↔ f.extractLsb' 0 3 &&& mask ≠ 0#3) ∧
    (faulted f mask = true ↔ f &&& mask.setWidth 32 ≠ 0#32) ∧
    faulted f 0#3 = false ∧ (faulted f 0b111#3 = true ↔ f.extractLsb' 0 3 ≠ 0#3) ∧
    maskedFaults (f ^^^ 0x00030008#32) mask = maskedFaults f mask

/-- R73: the fault test first, and no number for a faulted frame. -/
def Obligations.CelsiusTestsFaultsFirst : Prop :=
  ∀ (f : Frame) (mask : BitVec 3), celsius f mask =
    if f.extractLsb' 0 3 &&& mask ≠ 0#3 then .fault (f.extractLsb' 0 3 &&& mask) else .ok (f.extractLsb' 18 14).toInt

/-- R75: the same fault, or nine times the same frame's Celsius value plus 640. -/
def Obligations.FahrenheitPropagatesOrConverts : Prop :=
  ∀ (f : Frame) (mask : BitVec 3),
    (∀ fb, celsius f mask = .fault fb ↔ fahrenheit f mask = .fault fb) ∧
    (∀ tc, celsius f mask = .ok tc → fahrenheit f mask = .ok (9 * tc + 640))

/-- What R75 derives from R74: the conversion of a valid reading is exactly `C * 9/5 + 32`, and its range. -/
def Obligations.FahrenheitConversionIsExact : Prop :=
  ∀ (f : Frame) (mask : BitVec 3) (tc : Int), celsius f mask = .ok tc →
    ∃ fr : Int, fahrenheit f mask = .ok fr ∧ (fr : Rat) / 20 = (tc : Rat) / 4 * 9 / 5 + 32 ∧ -73088 ≤ fr ∧ fr ≤ 74359

/-- The exact temperatures the results stand for (R13), and the ranges R69, R74 and R75 derive. -/
def Obligations.TemperaturesKeepTheirRanges : Prop :=
  ∀ f : Frame,
    internalDegrees (decodeInternal f) = (decodeInternal f : Rat) / 16 ∧
    -128 ≤ internalDegrees (decodeInternal f) ∧ internalDegrees (decodeInternal f) ≤ 127.9375 ∧
    tcDegrees (decodeTc f) = (decodeTc f : Rat) / 4 ∧
    -2048 ≤ tcDegrees (decodeTc f) ∧ tcDegrees (decodeTc f) ≤ 2047.75 ∧
    fahrenheitDegrees (fahrenheitRaw (decodeTc f)) = tcDegrees (decodeTc f) * 9 / 5 + 32 ∧
    -3654.4 ≤ fahrenheitDegrees (fahrenheitRaw (decodeTc f)) ∧
    fahrenheitDegrees (fahrenheitRaw (decodeTc f)) ≤ 3717.95

/-- R77 and R51, with the codes of R54. -/
def Obligations.FaultCodesHaveTheirClasses : Prop :=
  (∀ c : BitVec 3, classify c =
    if c = 0#3 then FaultKind.none else if c = 1#3 then .openCircuit else if c = 2#3 then .shortGnd
    else if c = 4#3 then .shortVcc else .unknown) ∧
  kindCode .none = 0#3 ∧ kindCode .openCircuit = 1#3 ∧ kindCode .shortGnd = 2#3 ∧ kindCode .shortVcc = 3#3 ∧
  kindCode .unknown = 4#3

/-- What R78 derives from R67, R70, R71 and R76: each function depends on its own field of the frame only, and the internal one not on `MASK`. -/
def Obligations.DecodePathsAreIndependent : Prop :=
  ∀ f g : Frame,
    (f.extractLsb' 4 12 = g.extractLsb' 4 12 → decodeInternal f = decodeInternal g) ∧
    (f.extractLsb' 18 14 = g.extractLsb' 18 14 → decodeTc f = decodeTc g) ∧
    (f.extractLsb' 0 3 = g.extractLsb' 0 3 → faultCode f = faultCode g ∧ ∀ m, maskedFaults f m = maskedFaults g m)

/-- What R81 derives from R72, without the exception that never applies (90_conflicts.md C3). -/
def Obligations.UnfaultedReadingIsNegativeExactlyWithBit31 : Prop :=
  ∀ (f : Frame) (mask : BitVec 3), faulted f mask = false →
    ∃ n, celsius f mask = .ok n ∧ (n < 0 ↔ f.getLsbD 31 = true)

/-- What R80 derives from R68, R72 and R75: no result leaves 32 bits, and 32-bit arithmetic gives the same conversion. -/
def Obligations.NoDecodeFunctionOverflows : Prop :=
  ∀ f : Frame,
    -2048 ≤ decodeInternal f ∧ decodeInternal f ≤ 2048 ∧ -8192 ≤ decodeTc f ∧ decodeTc f ≤ 8192 ∧
    -74359 ≤ fahrenheitRaw (decodeTc f) ∧ fahrenheitRaw (decodeTc f) ≤ 74359 ∧
    int32 (decodeInternal f) = (f.extractLsb' 4 12).signExtend 32 ∧
    int32 (decodeTc f) = (f.extractLsb' 18 14).signExtend 32 ∧
    (9#32 * int32 (decodeTc f) + 640#32).toInt = fahrenheitRaw (decodeTc f)

/-! ### Responses and statuses -/

/-- R62, R65: every field of a response word reads back; `value` as `sext_32`. -/
def Obligations.ResponseFieldsReadBack : Prop :=
  ∀ (st : Status) (fb k : BitVec 3) (v : Int), -2 ^ 31 ≤ v → v < 2 ^ 31 →
    respStatus (responseWord st fb k v) = statusCode st ∧ respFbits (responseWord st fb k v) = fb ∧
    respKind (responseWord st fb k v) = k ∧ respReserved (responseWord st fb k v) = 0#24 ∧
    respValue (responseWord st fb k v) = v

/-- R99: NODATA exactly when the no-data test holds, for the four read commands. -/
def Obligations.NoDataExactlyWhenTheTestHolds : Prop :=
  ∀ (i : Instr) (s : State), isRead i = true →
    ∃ t, exec i s = .next t ∧ (lastStatus t = 2#2 ↔
      s.nextAnswer.ok = false ∨ (drawnFrame s = 0#32 ∧ s.params.zeroIsNodata = true))

/-- R100: FAULT exactly when an enforced bit is set, with those bits in `fbits` and no number. -/
def Obligations.FaultExactlyWhenAnEnforcedBitIsSet : Prop :=
  ∀ (i : Instr) (s : State), i = .readCelsius ∨ i = .readFahrenheit →
    ∃ t, exec i s = .next t ∧
      (lastStatus t = 1#2 ↔ (drawnFrame s).extractLsb' 0 3 &&& s.mask ≠ 0#3) ∧
      (lastStatus t = 1#2 →
        respFbits (lastResponse t) = (drawnFrame s).extractLsb' 0 3 &&& s.mask ∧ respValue (lastResponse t) = 0)

/-- The subclasses R100 derives from R77: one enforced bit is its own fault, two or more are unknown. -/
def Obligations.MaskedBitsNameTheSubclass : Prop :=
  ∀ (f : Frame) (mask fb : BitVec 3), celsius f mask = .fault fb →
    classify fb ≠ .none ∧
    (classify fb = .openCircuit ↔ fb = 0b001#3) ∧ (classify fb = .shortGnd ↔ fb = 0b010#3) ∧
    (classify fb = .shortVcc ↔ fb = 0b100#3) ∧
    (classify fb = .unknown ↔ 2 ≤ fb[0].toNat + fb[1].toNat + fb[2].toNat)

/-- The table R105 derives from R83 to R96, both ways: the statuses no command returns, and for each one it does, a state in which it does. -/
def Obligations.StatusesByCommand : Prop :=
  (∀ (i : Instr) (s : State), ∃ t, exec i s = .next t ∧
    (isRead i = false → lastStatus t = 0#2) ∧
    (i = .readInternal ∨ i = .readFault → lastStatus t = 0#2 ∨ lastStatus t = 2#2) ∧
    (i = .readCelsius ∨ i = .readFahrenheit → lastStatus t = 0#2 ∨ lastStatus t = 1#2 ∨ lastStatus t = 2#2)) ∧
  (∀ i : Instr, isRead i = true →
    (∃ s t, exec i s = .next t ∧ lastStatus t = 0#2) ∧ (∃ s t, exec i s = .next t ∧ lastStatus t = 2#2)) ∧
  (∀ i : Instr, i = .readCelsius ∨ i = .readFahrenheit → ∃ s t, exec i s = .next t ∧ lastStatus t = 1#2) ∧
  (∀ (s : State) (w : CommandWord) (rest : List CommandWord), s.commands = w :: rest → IllegalWord w →
    ∃ t, step s = .next t ∧ lastStatus t = 3#2)

/-- What R95 derives from R75: READ_FAHRENHEIT answers OK, FAULT or NODATA exactly when READ_CELSIUS would. -/
def Obligations.FahrenheitStatusIsCelsiusStatus : Prop :=
  ∀ s : State, ∃ t u, exec .readFahrenheit s = .next t ∧ exec .readCelsius s = .next u ∧ lastStatus t = lastStatus u ∧
    respFbits (lastResponse t) = respFbits (lastResponse u)

/-- A failed read leaves `MASK` as it was, and lazy initialisation has happened whatever the outcome (R102, R104). -/
def Obligations.FailedReadsKeepMaskAndInitialise : Prop :=
  ∀ (i : Instr) (s : State), isRead i = true →
    ∃ t, exec i s = .next t ∧ t.init = 1#1 ∧ t.mask = s.mask ∧
      (lastStatus t ≠ 0#2 → respValue (lastResponse t) = 0 ∧ respKind (lastResponse t) = 0#3)

/-- R86: a zero frame from a successful transfer, under each value of `ZERO_IS_NODATA`. -/
def Obligations.ZeroFramePolicy : Prop :=
  ∀ (i : Instr) (s : State), isRead i = true → s.nextAnswer.ok = true → drawnFrame s = 0#32 →
    exec i s = .next (afterRead s (
      if s.params.zeroIsNodata then noDataWord
      else match i with
        | .readFahrenheit => word 640#32 0#3 0#3 0#2
        | _ => word 0#32 0#3 0#3 0#2))

/-! ### What commands do not depend on -/

/-- The bytes of a not-ready answer are never read (R26, R37, U12). -/
def Obligations.NotReadyBytesAreNeverRead : Prop :=
  ∀ (i : Instr) (s : State) (a b : TransportAnswer) (rest : List TransportAnswer),
    a.ok = false → b.ok = false → isRead i = true →
    exec i { s with answers := a :: rest } = exec i { s with answers := b :: rest }

/-- Frame bits 17, 16 and 3 change no response unless they decide whether the frame is 0 (R48). -/
def Obligations.UnusedFrameBitsChangeNoResponse : Prop :=
  ∀ (i : Instr) (s : State) (a b : TransportAnswer) (rest : List TransportAnswer),
    a.ok = true → b.ok = true → isRead i = true →
    acquiredFrame a ≠ 0#32 → acquiredFrame b ≠ 0#32 →
    acquiredFrame a &&& 0xFFFCFFF7#32 = acquiredFrame b &&& 0xFFFCFFF7#32 →
    exec i { s with answers := a :: rest } = exec i { s with answers := b :: rest }

/-- READ_INTERNAL and READ_FAULT do not read `MASK` (R16, R93, R96). -/
def Obligations.InternalAndFaultReadsIgnoreMask : Prop :=
  ∀ (i : Instr) (s : State) (m : BitVec 3), i = .readInternal ∨ i = .readFault →
    ∃ t, exec i s = .next t ∧ exec i { s with mask := m } = .next { t with mask := m }

/-- No command reads an earlier response or an earlier event: it adds the same to any (R22, R44, R104, R122). -/
def Obligations.NoCommandReadsEarlierResults : Prop :=
  ∀ (i : Instr) (s : State), ∃ t r evs, exec i s = .next t ∧
    ∀ (rs : List ResponseWord) (tr : List PortEvent),
      exec i { s with responses := rs, trace := tr } = .next { t with responses := rs ++ [r], trace := tr ++ evs }

/-- No two reads share a sample (R44, R122): a read command takes the next draw for itself alone, and the draw after it
is another one, listed or free. The form of a free draw is the model's choice (log entry 3). -/
def Obligations.EveryReadTakesItsOwnDraw : Prop :=
  ∀ (i : Instr) (s : State), isRead i = true → ∃ t, exec i s = .next t ∧
    (∀ (a b : TransportAnswer) (rest : List TransportAnswer), s.answers = a :: b :: rest →
      s.nextAnswer = a ∧ t.nextAnswer = b) ∧
    (s.answers = [] → s.nextAnswer = Config.freeAnswer s.stream s.draws ∧
      t.nextAnswer = Config.freeAnswer s.stream (s.draws + 1))

/-- A new mask applies from the very next command (R41, R119): SET_MASK and then READ_CELSIUS. -/
def Obligations.NewMaskAppliesToTheNextCommand : Prop :=
  ∀ (s : State) (m : BitVec 8) (rest : List CommandWord),
    s.commands = encode (.setMask m) :: encode .readCelsius :: rest →
    ∃ t u, step s = .next t ∧ step t = .next u ∧ u.mask = m.extractLsb' 0 3 ∧ u.commands = rest ∧
      u.responses = s.responses ++
        [0#64, if NoData s then noDataWord else celsiusWord (drawnFrame s) (m.extractLsb' 0 3)]

/-! ### Invariants of every step -/

/-- Every response ever returned has the form of R62, R64 and R54. -/
def Obligations.ResponsesStayWellFormed : Prop :=
  ∀ s t : State, (∀ w ∈ s.responses, ResponseWellFormed w) → step s = .next t → ∀ w ∈ t.responses, ResponseWellFormed w

/-- The trace stays a sequence of closed transactions (R33, R34, R39, R87). -/
def Obligations.BusStaysDisciplined : Prop :=
  ∀ s t : State, BusDisciplined s → step s = .next t → BusDisciplined t

/-- `INIT` keeps saying what the ports have seen (R29, R84, R88). That the last level driven is high once `INIT` is 1 is
what R27 derives from R87 and R89. -/
def Obligations.InitKeepsMatchingTheTrace : Prop :=
  ∀ s t : State, InitMatchesTrace s → step s = .next t → InitMatchesTrace t

/-- Draws, transfers and responses keep their count (R25, R26, R40). The draw counter is the model's own field (log
entry 3). -/
def Obligations.DrawsKeepMatchingTheTrace : Prop :=
  ∀ s t : State, DrawsMatchTrace s → step s = .next t → DrawsMatchTrace t

/-! ### Several instances -/

/-- A command of one instance is that instance's step, on its own stream of free draws, and leaves every other instance
as it was (R110). The platform, and the stream each instance has, are the model's choice (DESIGN CHOICE, log entries 6
and 3). -/
def Obligations.InstancesShareNoState : Prop :=
  ∀ (k : Nat) (p : Platform) (s : State), p.instances[k]? = some s →
    ∃ t q, step { s with stream := k } = .next t ∧ t.stream = k ∧ p.stepInstance k = .next q ∧
      q.instances[k]? = some t ∧
      (∀ j, j ≠ k → q.instances[j]? = p.instances[j]?) ∧ q.instances.length = p.instances.length

/-- No host move overlaps two transactions on a shared bus (R39, R110, R124). It holds because the platform's one move is
a whole command of one instance, also for instances that share neither peripheral nor pin: that is the model's choice
(DESIGN CHOICE, log entry 6). -/
def Obligations.SharedBusStaysExclusive : Prop :=
  ∀ (k : Nat) (p q : Platform), BusExclusive p → p.stepInstance k = .next q → BusExclusive q

/-- What the bus has seen of an instance stays exactly what that instance emitted. The bus record of several instances is
the model's own (DESIGN CHOICE, log entry 6). -/
def Obligations.SharedBusKeepsAgreeingWithTraces : Prop :=
  ∀ (k : Nat) (p q : Platform), BusAgrees p → p.stepInstance k = .next q → BusAgrees q

/-! ### The assembler -/

/-- An assembled word is legal, and it is the word of a command (R60). -/
def Obligations.AssembledWordsAreLegal : Prop :=
  ∀ (line : String) (w : CommandWord), assembleLine line = .word w → ¬ IllegalWord w ∧ ∃ i, decode w = some i ∧ encode i = w

/-- What an assembler must reject (R60), and the word of R55 and R56 it makes of each other line. -/
def Obligations.AssemblerTakesAnOperandOnlyForSetMask : Prop :=
  (∀ n, assemble ⟨.setMask, some n⟩ = if n ≤ 255 then .word (BitVec.ofNat 8 n ++ 0x02#8) else .error) ∧
  assemble ⟨.setMask, none⟩ = .error ∧
  (∀ m n, m ≠ .setMask → assemble ⟨m, some n⟩ = .error) ∧
  assemble ⟨.begin, none⟩ = .word 0x0001#16 ∧ assemble ⟨.readInternal, none⟩ = .word 0x0003#16 ∧
  assemble ⟨.readCelsius, none⟩ = .word 0x0004#16 ∧ assemble ⟨.readFahrenheit, none⟩ = .word 0x0005#16 ∧
  assemble ⟨.readFault, none⟩ = .word 0x0006#16 ∧ assemble ⟨.getConfig, none⟩ = .word 0x0007#16 ∧
  assembleLine "BEGIN" = .word 0x0001#16 ∧ assembleLine "READ_INTERNAL" = .word 0x0003#16 ∧
  assembleLine "READ_CELSIUS" = .word 0x0004#16 ∧ assembleLine "READ_FAHRENHEIT" = .word 0x0005#16 ∧
  assembleLine "READ_FAULT" = .word 0x0006#16 ∧ assembleLine "GET_CONFIG" = .word 0x0007#16

/-- R61: the two named operands. -/
def Obligations.NamedOperandsOfSetMask : Prop :=
  readOperand "FAULT_ALL".toList = some 0x07 ∧ readOperand "FAULT_NONE".toList = some 0x00 ∧
  assembleLine "SET_MASK FAULT_ALL" = .word 0x0702#16 ∧ assembleLine "SET_MASK FAULT_NONE" = .word 0x0002#16
end

