-- ==== Sys2Proof/Laws/State.lean ====
section
/-! SUPPORT. What each update of State leaves in each field. -/

namespace Sys2Proof.Machine

@[simp] theorem State.emit_init (s : State) (e : PortEvent) : (s.emit e).init = s.init := rfl
@[simp] theorem State.emit_mask (s : State) (e : PortEvent) : (s.emit e).mask = s.mask := rfl
@[simp] theorem State.emit_params (s : State) (e : PortEvent) : (s.emit e).params = s.params := rfl
@[simp] theorem State.emit_commands (s : State) (e : PortEvent) : (s.emit e).commands = s.commands := rfl
@[simp] theorem State.emit_answers (s : State) (e : PortEvent) : (s.emit e).answers = s.answers := rfl
@[simp] theorem State.emit_stream (s : State) (e : PortEvent) : (s.emit e).stream = s.stream := rfl
@[simp] theorem State.emit_draws (s : State) (e : PortEvent) : (s.emit e).draws = s.draws := rfl
@[simp] theorem State.emit_trace (s : State) (e : PortEvent) : (s.emit e).trace = s.trace ++ [e] := rfl
@[simp] theorem State.emit_responses (s : State) (e : PortEvent) : (s.emit e).responses = s.responses := rfl

@[simp] theorem State.respond_init (s : State) (st : Status) (fb k : BitVec 3) (v : Int) : (s.respond st fb k v).init = s.init := rfl
@[simp] theorem State.respond_mask (s : State) (st : Status) (fb k : BitVec 3) (v : Int) : (s.respond st fb k v).mask = s.mask := rfl
@[simp] theorem State.respond_params (s : State) (st : Status) (fb k : BitVec 3) (v : Int) : (s.respond st fb k v).params = s.params := rfl
@[simp] theorem State.respond_commands (s : State) (st : Status) (fb k : BitVec 3) (v : Int) : (s.respond st fb k v).commands = s.commands := rfl
@[simp] theorem State.respond_answers (s : State) (st : Status) (fb k : BitVec 3) (v : Int) : (s.respond st fb k v).answers = s.answers := rfl
@[simp] theorem State.respond_stream (s : State) (st : Status) (fb k : BitVec 3) (v : Int) : (s.respond st fb k v).stream = s.stream := rfl
@[simp] theorem State.respond_draws (s : State) (st : Status) (fb k : BitVec 3) (v : Int) : (s.respond st fb k v).draws = s.draws := rfl
@[simp] theorem State.respond_trace (s : State) (st : Status) (fb k : BitVec 3) (v : Int) : (s.respond st fb k v).trace = s.trace := rfl
@[simp] theorem State.respond_responses (s : State) (st : Status) (fb k : BitVec 3) (v : Int) : (s.respond st fb k v).responses = s.responses ++ [responseWord st fb k v] := rfl

@[simp] theorem State.markReady_init (s : State) : s.markReady.init = 1#1 := rfl
@[simp] theorem State.markReady_mask (s : State) : s.markReady.mask = s.mask := rfl
@[simp] theorem State.markReady_params (s : State) : s.markReady.params = s.params := rfl
@[simp] theorem State.markReady_commands (s : State) : s.markReady.commands = s.commands := rfl
@[simp] theorem State.markReady_answers (s : State) : s.markReady.answers = s.answers := rfl
@[simp] theorem State.markReady_stream (s : State) : s.markReady.stream = s.stream := rfl
@[simp] theorem State.markReady_draws (s : State) : s.markReady.draws = s.draws := rfl
@[simp] theorem State.markReady_trace (s : State) : s.markReady.trace = s.trace := rfl
@[simp] theorem State.markReady_responses (s : State) : s.markReady.responses = s.responses := rfl

@[simp] theorem State.writeMask_init (s : State) (v : BitVec 3) : (s.writeMask v).init = s.init := rfl
@[simp] theorem State.writeMask_mask (s : State) (v : BitVec 3) : (s.writeMask v).mask = v := rfl
@[simp] theorem State.writeMask_params (s : State) (v : BitVec 3) : (s.writeMask v).params = s.params := rfl
@[simp] theorem State.writeMask_commands (s : State) (v : BitVec 3) : (s.writeMask v).commands = s.commands := rfl
@[simp] theorem State.writeMask_answers (s : State) (v : BitVec 3) : (s.writeMask v).answers = s.answers := rfl
@[simp] theorem State.writeMask_stream (s : State) (v : BitVec 3) : (s.writeMask v).stream = s.stream := rfl
@[simp] theorem State.writeMask_draws (s : State) (v : BitVec 3) : (s.writeMask v).draws = s.draws := rfl
@[simp] theorem State.writeMask_trace (s : State) (v : BitVec 3) : (s.writeMask v).trace = s.trace := rfl
@[simp] theorem State.writeMask_responses (s : State) (v : BitVec 3) : (s.writeMask v).responses = s.responses := rfl

@[simp] theorem State.takeCommand_init (s : State) : s.takeCommand.init = s.init := rfl
@[simp] theorem State.takeCommand_mask (s : State) : s.takeCommand.mask = s.mask := rfl
@[simp] theorem State.takeCommand_params (s : State) : s.takeCommand.params = s.params := rfl
@[simp] theorem State.takeCommand_commands (s : State) : s.takeCommand.commands = s.commands.tail := rfl
@[simp] theorem State.takeCommand_answers (s : State) : s.takeCommand.answers = s.answers := rfl
@[simp] theorem State.takeCommand_stream (s : State) : s.takeCommand.stream = s.stream := rfl
@[simp] theorem State.takeCommand_draws (s : State) : s.takeCommand.draws = s.draws := rfl
@[simp] theorem State.takeCommand_trace (s : State) : s.takeCommand.trace = s.trace := rfl
@[simp] theorem State.takeCommand_responses (s : State) : s.takeCommand.responses = s.responses := rfl

@[simp] theorem State.present_init (s : State) (w : CommandWord) : (s.present w).init = s.init := rfl
@[simp] theorem State.present_mask (s : State) (w : CommandWord) : (s.present w).mask = s.mask := rfl
@[simp] theorem State.present_params (s : State) (w : CommandWord) : (s.present w).params = s.params := rfl
@[simp] theorem State.present_commands (s : State) (w : CommandWord) : (s.present w).commands = w :: s.commands := rfl
@[simp] theorem State.present_answers (s : State) (w : CommandWord) : (s.present w).answers = s.answers := rfl
@[simp] theorem State.present_stream (s : State) (w : CommandWord) : (s.present w).stream = s.stream := rfl
@[simp] theorem State.present_draws (s : State) (w : CommandWord) : (s.present w).draws = s.draws := rfl
@[simp] theorem State.present_trace (s : State) (w : CommandWord) : (s.present w).trace = s.trace := rfl
@[simp] theorem State.present_responses (s : State) (w : CommandWord) : (s.present w).responses = s.responses := rfl

@[simp] theorem State.onStream_init (s : State) (k : Nat) : (s.onStream k).init = s.init := rfl
@[simp] theorem State.onStream_mask (s : State) (k : Nat) : (s.onStream k).mask = s.mask := rfl
@[simp] theorem State.onStream_params (s : State) (k : Nat) : (s.onStream k).params = s.params := rfl
@[simp] theorem State.onStream_commands (s : State) (k : Nat) : (s.onStream k).commands = s.commands := rfl
@[simp] theorem State.onStream_answers (s : State) (k : Nat) : (s.onStream k).answers = s.answers := rfl
@[simp] theorem State.onStream_stream (s : State) (k : Nat) : (s.onStream k).stream = k := rfl
@[simp] theorem State.onStream_draws (s : State) (k : Nat) : (s.onStream k).draws = s.draws := rfl
@[simp] theorem State.onStream_trace (s : State) (k : Nat) : (s.onStream k).trace = s.trace := rfl
@[simp] theorem State.onStream_responses (s : State) (k : Nat) : (s.onStream k).responses = s.responses := rfl

@[simp] theorem State.xfer_init (s : State) : s.xfer.init = s.init := rfl
@[simp] theorem State.xfer_mask (s : State) : s.xfer.mask = s.mask := rfl
@[simp] theorem State.xfer_params (s : State) : s.xfer.params = s.params := rfl
@[simp] theorem State.xfer_commands (s : State) : s.xfer.commands = s.commands := rfl
@[simp] theorem State.xfer_answers (s : State) : s.xfer.answers = s.answers.tail := rfl
@[simp] theorem State.xfer_stream (s : State) : s.xfer.stream = s.stream := rfl
@[simp] theorem State.xfer_draws (s : State) : s.xfer.draws = s.draws + 1 := rfl
@[simp] theorem State.xfer_trace (s : State) : s.xfer.trace = s.trace ++ [.xfer s.params.periphId Config.txByte Config.frameBytes] := rfl
@[simp] theorem State.xfer_responses (s : State) : s.xfer.responses = s.responses := rfl

@[simp] theorem State.construct_init (p : Params) : (State.construct p).init = 0#1 := rfl
@[simp] theorem State.construct_mask (p : Params) : (State.construct p).mask = 0b111#3 := rfl
@[simp] theorem State.construct_params (p : Params) : (State.construct p).params = p := rfl
@[simp] theorem State.construct_commands (p : Params) : (State.construct p).commands = [] := rfl
@[simp] theorem State.construct_answers (p : Params) : (State.construct p).answers = [] := rfl
@[simp] theorem State.construct_stream (p : Params) : (State.construct p).stream = 0 := rfl
@[simp] theorem State.construct_draws (p : Params) : (State.construct p).draws = 0 := rfl
@[simp] theorem State.construct_trace (p : Params) : (State.construct p).trace = [] := rfl
@[simp] theorem State.construct_responses (p : Params) : (State.construct p).responses = [] := rfl

end Sys2Proof.Machine
end

