-- ==== Sys2Proof/Laws/Ops.lean ====
section
/-! SUPPORT. One lemma for each shared operation of Machine/Ops.lean and for the step: all that it can do. -/

namespace Sys2Proof.Machine

open Sys2Proof.Safety

/-- `INIT` is one bit. -/
theorem init_zero_or_one (b : BitVec 1) : b = 0#1 ∨ b = 1#1 := by
  revert b
  decide

theorem State.assignPins_eq (l : List (PinId × PinRole)) (s : State) :
    s.assignPins l = { s with trace := s.trace ++ l.map fun x => .pinFunc x.1 x.2 } := by
  induction l generalizing s with
  | nil => simp [State.assignPins]
  | cons x l ih => obtain ⟨pin, role⟩ := x; simp [State.assignPins, ih, State.emit]

/-- `BeginActions` sets `INIT`, emits its trace and changes nothing else. -/
theorem State.beginActions_eq (s : State) :
    s.beginActions = { s with init := 1#1, trace := s.trace ++ beginTrace s.params } := by
  simp [State.beginActions, State.assignPins_eq, State.driveCs, State.emit, State.markReady, beginTrace]

/-- `EnsureReady` leaves `INIT` 1 and emits the begin trace only where it was 0. -/
theorem State.ensureReady_eq (s : State) :
    s.ensureReady =
      { s with init := 1#1, trace := s.trace ++ (if s.init = 0#1 then beginTrace s.params else []) } := by
  obtain h | h := init_zero_or_one s.init
  · simp [State.ensureReady, h, State.beginActions_eq]
  · obtain ⟨⟩ := s
    simp_all [State.ensureReady]

/-- `Acquire` emits its nine events and uses up one answer. -/
theorem State.acquire_eq (s : State) :
    s.acquire =
      { s with answers := s.answers.tail, draws := s.draws + 1, trace := s.trace ++ acquireTrace s.params } := by
  simp [State.acquire, State.emitNops, State.emitDelay, State.driveCs, State.emit, State.xfer, acquireTrace,
    Config.txByte, Config.frameBytes]

/-- `ReadFrame` is lazy initialisation and one acquisition. -/
theorem State.readFrame_eq (s : State) :
    s.readFrame =
      { s with
        init := 1#1, answers := s.answers.tail, draws := s.draws + 1, trace := s.trace ++ readTrace s } := by
  simp [State.readFrame, State.ensureReady_eq, State.acquire_eq, readTrace]

@[simp] theorem State.ensureReady_nextAnswer (s : State) : s.ensureReady.nextAnswer = s.nextAnswer := by
  simp [State.ensureReady_eq, State.nextAnswer]

/-- A read command answers NODATA or gives its reply, after the same `ReadFrame`. -/
theorem State.readCommand_cases (reply : Frame → State → State) (s : State) :
    (noData s.params.zeroIsNodata s.nextAnswer.ok (acquiredFrame s.nextAnswer) = true ∧
      s.readCommand reply = s.readFrame.respond .noData 0#3 0#3 0) ∨
    (noData s.params.zeroIsNodata s.nextAnswer.ok (acquiredFrame s.nextAnswer) = false ∧
      s.readCommand reply = reply (acquiredFrame s.nextAnswer) s.readFrame) := by
  unfold State.readCommand readResult
  rw [State.ensureReady_nextAnswer]
  cases h : noData s.params.zeroIsNodata s.nextAnswer.ok (acquiredFrame s.nextAnswer) <;> simp

/-- What a step can do: nothing while no word is presented; else the decoded command, or the ILLEGAL response. -/
theorem step_cases {s t : State} (h : step s = .next t) :
    (s.commands = [] ∧ t = s) ∨
    (∃ w i, s.commands.head? = some w ∧ decode w = some i ∧ exec i s.takeCommand = .next t) ∨
    (∃ w, s.commands.head? = some w ∧ decode w = none ∧ t = s.takeCommand.respond .illegal 0#3 0#3 0) := by
  unfold step State.presented at h
  cases hw : s.commands with
  | nil => simp [hw] at h; exact .inl ⟨rfl, h.symm⟩
  | cons w rest =>
    simp only [hw, List.head?_cons] at h
    cases hd : decode w with
    | none => simp only [hd, illegalCommand, Host.Outcome.next.injEq] at h; exact .inr (.inr ⟨w, rfl, hd, h.symm⟩)
    | some i => simp only [hd] at h; exact .inr (.inl ⟨w, i, rfl, hd, h⟩)

end Sys2Proof.Machine
end

