-- ==== Sys2Proof/Laws/PerInstr.lean ====
section
/-! SUPPORT. Facts about each instruction as syntax, one lemma for each constructor. -/

/-- The word of an instruction is selected by a row of the opcode table that has its mnemonic (R66). -/
def Sys2Proof.Laws.TableRow.Statement (i : Sys2Proof.Instr) : Prop :=
  ∃ r ∈ Sys2Proof.opcodeTable, r.mnemonic = i.mnemonic ∧ r.selects (Sys2Proof.encode i) = true

namespace Sys2Proof.Laws.TableRow

theorem begin : Statement .begin := ⟨⟨"BEGIN", 0x0001#16, 0xFFFF#16⟩, by decide⟩

theorem setMask (m : BitVec 8) : Statement (.setMask m) := by
  refine ⟨⟨"SET_MASK", 0x0002#16, 0x00FF#16⟩, by decide, rfl, ?_⟩
  simp only [OpcodeRow.selects, encode, beq_iff_eq]
  revert m
  decide

theorem readInternal : Statement .readInternal := ⟨⟨"READ_INTERNAL", 0x0003#16, 0xFFFF#16⟩, by decide⟩

theorem readCelsius : Statement .readCelsius := ⟨⟨"READ_CELSIUS", 0x0004#16, 0xFFFF#16⟩, by decide⟩

theorem readFahrenheit : Statement .readFahrenheit := ⟨⟨"READ_FAHRENHEIT", 0x0005#16, 0xFFFF#16⟩, by decide⟩

theorem readFault : Statement .readFault := ⟨⟨"READ_FAULT", 0x0006#16, 0xFFFF#16⟩, by decide⟩

theorem getConfig : Statement .getConfig := ⟨⟨"GET_CONFIG", 0x0007#16, 0xFFFF#16⟩, by decide⟩

end Sys2Proof.Laws.TableRow
end

