-- ==== Sys2Proof/Laws/Safety.lean ====
section
/-! SUPPORT. The small lemmas of the scans of Safety.lean, and what a command of one instance does to a platform. -/

namespace Sys2Proof.Safety

open Sys2Proof.Machine

theorem csScan_append (p : Params) (ph : CsPhase) (a b : List PortEvent) :
    csScan p ph (a ++ b) = (csScan p ph a).bind fun ph' => csScan p ph' b := by
  induction a generalizing ph with
  | nil => rfl
  | cons e a ih =>
    simp only [List.cons_append, csScan]
    cases csStep p ph e <;> simp [ih]

theorem ownerScan_append (o : Option Nat) (a b : List (Nat × PortEvent)) :
    ownerScan o (a ++ b) = (ownerScan o a).bind fun o' => ownerScan o' b := by
  induction a generalizing o with
  | nil => rfl
  | cons e a ih =>
    simp only [List.cons_append, ownerScan]
    cases ownerStep o e <;> simp [ih]

theorem lastLevel_append (pin : PinId) (a b : List PortEvent) :
    lastLevel pin (a ++ b) = (lastLevel pin b).or (lastLevel pin a) := by
  induction a with
  | nil => simp [lastLevel]
  | cons e a ih => cases e <;> simp [lastLevel, ih, Option.or_assoc]

theorem xferCount_append (a b : List PortEvent) : xferCount (a ++ b) = xferCount a + xferCount b := by
  simp [xferCount, List.countP_append]

/-- What a command of instance `k` can do to a platform. -/
theorem stepInstance_cases {k : Nat} {p q : Platform} (h : p.stepInstance k = .next q) :
    (p.instances[k]? = none ∧ q = p) ∨
    (∃ s t, p.instances[k]? = some s ∧ step (s.onStream k) = .next t ∧
      q = { instances := p.instances.set k t, bus := p.bus ++ newEvents k s t }) := by
  unfold Platform.stepInstance at h
  cases hs : p.instances[k]? with
  | none => simp only [hs, Host.Outcome.next.injEq] at h; exact .inl ⟨rfl, h.symm⟩
  | some s =>
    simp only [hs] at h
    cases ht : step (s.onStream k) with
    | next t => simp only [ht, Host.Outcome.next.injEq] at h; exact .inr ⟨s, t, rfl, ht, h.symm⟩
    | fault r => exact nomatch r
    | refused r => simp [ht] at h

end Sys2Proof.Safety
end

