-- ==== Sys2Proof/Tests/Slice0.lean ====
section
/-! SUPPORT. The model's own tests: words and results taken from 30_encoding.md and 95_test_vectors.md (never from the
model), the smoke tests of WellFormed, and a witness for the hypotheses of each statement that has some. -/

namespace Sys2Proof.Tests

open Sys2Proof.Machine Sys2Proof.Safety Sys2Proof.Claims

/-! ### Helpers -/

/-- The parameters of 95_test_vectors.md section 3. -/
def params : Params := ⟨⟨0⟩, 9600, ⟨7⟩, [(⟨2⟩, ⟨1⟩), (⟨3⟩, ⟨1⟩)], 1, 3, true⟩

/-- An instance with a mask and one coming answer. -/
def withAnswer (init : BitVec 1) (mask : BitVec 3) (a : TransportAnswer) : State :=
  { State.construct params with init := init, mask := mask, answers := [a] }

/-- A successful transfer of four bytes. -/
def bytes (b0 b1 b2 b3 : Byte) : TransportAnswer := ⟨true, b0, b1, b2, b3⟩

/-- A fresh instance at whose command port a word is presented. -/
def presenting (w : CommandWord) : State := (State.construct params).present w

/-- The next state of an outcome; the given one where there is none. -/
def nextOr (s : State) : Host.Outcome State Fault Refusal → State
  | .next t => t
  | .fault _ => s
  | .refused _ => s

/-- The state after a step. -/
def stepped (s : State) : State := nextOr s (step s)

/-- The registers and the last response after a command. -/
def result (i : Instr) (s : State) : BitVec 1 × BitVec 3 × ResponseWord :=
  let t := nextOr s (exec i s)
  (t.init, t.mask, lastResponse t)

/-- Does an outcome go on? -/
def goesOn : Host.Outcome State Fault Refusal → Bool
  | .next _ => true
  | .fault _ => false
  | .refused _ => false

/-! ### Well-formedness: an ill-formed term for each check, refused -/

theorem test_params_baud_zero_refused : ({ params with baud := 0 } : Params).wellFormed = false := by decide
theorem test_params_accepted : params.wellFormed = true := by decide
theorem test_asm_operand_256_refused : (AsmCommand.mk .setMask (some 256)).wellFormed = false := by decide
theorem test_asm_operand_missing_refused : (AsmCommand.mk .setMask none).wellFormed = false := by decide
theorem test_asm_stray_operand_refused : (AsmCommand.mk .readCelsius (some 0)).wellFormed = false := by decide
theorem test_asm_operand_255_accepted : (AsmCommand.mk .setMask (some 255)).wellFormed = true := by decide

/-! ### Decoding, by words written out from R55 and R56: operand, rsv, op -/

theorem test_decode_begin : decode 0b00000000_0000_0001#16 = some .begin := by decide
theorem test_decode_setMask : decode 0b10100110_0000_0010#16 = some (.setMask 0b10100110#8) := by decide
theorem test_decode_readInternal : decode 0b00000000_0000_0011#16 = some .readInternal := by decide
theorem test_decode_readCelsius : decode 0b00000000_0000_0100#16 = some .readCelsius := by decide
theorem test_decode_readFahrenheit : decode 0b00000000_0000_0101#16 = some .readFahrenheit := by decide
theorem test_decode_readFault : decode 0b00000000_0000_0110#16 = some .readFault := by decide
theorem test_decode_getConfig : decode 0b00000000_0000_0111#16 = some .getConfig := by decide

/-- 95_test_vectors.md V8: each reason by its name. -/
theorem test_illegal_reasons :
    illegalReason 0x0000#16 = some .reservedOpcode ∧ illegalReason 0x000F#16 = some .reservedOpcode ∧
    illegalReason 0x0014#16 = some .reservedField ∧ illegalReason 0x0112#16 = some .reservedField ∧
    illegalReason 0x0104#16 = some .strayOperand := by decide

/-- The table's words through the host's two entry points: READ_INTERNAL from reset. -/
theorem test_tableWord : decodeTableWord 16 0x0003 = some .readInternal ∧ decodeTableWord 16 0xFF02 = some (.setMask 0xFF#8) := by
  decide
theorem test_fetchWord_runs : goesOn (step (State.reset.withFetchWord 16 0x0003)) = true := by decide
theorem test_fetchWord_is_exec (s : State) : step (s.withFetchWord 16 0x0003) = exec .readInternal s := rfl

/-! ### One step on a small state, at most two for each command -/

/-- R89's example, from Unconfigured: the five events of P3 step 8. -/
theorem test_begin_trace : (nextOr State.reset (exec .begin (State.construct params))).trace =
    [.busInit ⟨0⟩ 9600, .pinFunc ⟨2⟩ ⟨1⟩, .pinFunc ⟨3⟩ ⟨1⟩, .gpioOut ⟨7⟩, .gpioSet ⟨7⟩ .high] := by decide
theorem test_begin_result : result .begin (State.construct params) = (1#1, 0b111#3, 0x0000000000000000#64) := by decide

/-- V7: `SET_MASK 0x08` and `SET_MASK 0xFF`. -/
theorem test_setMask_high_bits : result (.setMask 0x08#8) (withAnswer 1#1 0b111#3 default) = (1#1, 0b000#3, 0#64) := by decide
theorem test_setMask_all : result (.setMask 0xFF#8) (withAnswer 0#1 0b000#3 default) = (0#1, 0b111#3, 0#64) := by decide

/-- V7: GET_CONFIG from reset, and at (1, `0b101`). -/
theorem test_getConfig_reset : result .getConfig State.reset = (0#1, 0b111#3, 0x0000000700000000#64) := by decide
theorem test_getConfig_ready : result .getConfig (withAnswer 1#1 0b101#3 default) = (1#1, 0b101#3, 0x0000000D00000000#64) := by
  decide

/-- V2: frame `0x000DB0C0` (-1268), and P3 step 3, a not-ready transport with lazy initialisation. -/
theorem test_readInternal_negative :
    result .readInternal (withAnswer 1#1 0b111#3 (bytes 0x00#8 0x0D#8 0xB0#8 0xC0#8)) =
      (1#1, 0b111#3, 0xFFFFFB0C00000000#64) := by decide
theorem test_readInternal_notReady :
    result .readInternal (withAnswer 0#1 0b111#3 ⟨false, 0xFF#8, 0xFC#8, 0x7F#8, 0xF1#8⟩) =
      (1#1, 0b111#3, 0x0000000000000002#64) := by decide

/-- V3: frame `0x00000006` under `0b010`, and `0x80000000`. -/
theorem test_readCelsius_fault :
    result .readCelsius (withAnswer 1#1 0b010#3 (bytes 0#8 0#8 0#8 0x06#8)) = (1#1, 0b010#3, 0x0000000000000009#64) := by decide
theorem test_readCelsius_lowest :
    result .readCelsius (withAnswer 0#1 0b111#3 (bytes 0x80#8 0#8 0#8 0#8)) = (1#1, 0b111#3, 0xFFFFE00000000000#64) := by decide

/-- V4: frame `0x80000000` (-73088), and the fault propagated from `0x00000006` under `0b110`. -/
theorem test_readFahrenheit_lowest :
    result .readFahrenheit (withAnswer 1#1 0b111#3 (bytes 0x80#8 0#8 0#8 0#8)) = (1#1, 0b111#3, 0xFFFEE28000000000#64) := by
  decide
theorem test_readFahrenheit_fault :
    result .readFahrenheit (withAnswer 1#1 0b110#3 (bytes 0#8 0#8 0#8 0x06#8)) = (1#1, 0b110#3, 0x0000000000000019#64) := by
  decide

/-- V6: frame `0x00000004`, and bit 3 alone. -/
theorem test_readFault_vcc :
    result .readFault (withAnswer 1#1 0b000#3 (bytes 0#8 0#8 0#8 0x04#8)) = (1#1, 0b000#3, 0x0000000400000060#64) := by decide
theorem test_readFault_bit3 :
    result .readFault (withAnswer 1#1 0b111#3 (bytes 0#8 0#8 0#8 0x08#8)) = (1#1, 0b111#3, 0x0000000000000000#64) := by decide

/-- P3 step 1: an illegal read word neither initialises nor acquires. -/
theorem test_illegal_word :
    let t := stepped (presenting 0x0104#16)
    (t.init, t.mask, t.trace, t.draws, t.responses) = (0#1, 0b111#3, [], 0, [0x0000000000000003#64]) := by decide

/-- P1 step 1: the whole trace of a first read, 5 + 9 events. -/
theorem test_first_read_trace :
    (nextOr State.reset (exec .readCelsius (withAnswer 0#1 0b111#3 (bytes 0x01#8 0x90#8 0#8 0#8)))).trace =
    [.busInit ⟨0⟩ 9600, .pinFunc ⟨2⟩ ⟨1⟩, .pinFunc ⟨3⟩ ⟨1⟩, .gpioOut ⟨7⟩, .gpioSet ⟨7⟩ .high,
     .nops 3, .gpioSet ⟨7⟩ .low, .nops 3, .delayMs 1, .xfer ⟨0⟩ 0x00#8 4, .nops 3, .gpioSet ⟨7⟩ .high, .nops 3, .delayMs 1] := by
  decide

/-- V9: a zero frame, with `ZERO_IS_NODATA` true and false. -/
theorem test_zero_frame :
    result .readFahrenheit (withAnswer 1#1 0b111#3 (bytes 0#8 0#8 0#8 0#8)) = (1#1, 0b111#3, 0x0000000000000002#64) ∧
    result .readFahrenheit { withAnswer 1#1 0b111#3 (bytes 0#8 0#8 0#8 0#8) with params := { params with zeroIsNodata := false } } =
      (1#1, 0b111#3, 0x0000028000000000#64) := by decide

/-! ### The decode functions at the corners the spec tabulates -/

/-- V1: byte assembly. -/
theorem test_assembleFrame : assembleFrame (bytes 0x12#8 0x34#8 0x56#8 0x78#8) = 0x12345678#32 := by decide
/-- R68's table, V2. -/
theorem test_decodeInternal_corners :
    decodeInternal 0x00007FF0#32 = 2047 ∧ decodeInternal 0x00008000#32 = -2048 ∧ decodeInternal 0x0000FFF0#32 = -1 ∧
    decodeInternal 0xFFFF7FFF#32 = 2047 ∧ decodeInternal 0x00001900#32 = 400 := by decide
/-- R72's table, X3, V3. -/
theorem test_decodeTc_corners :
    decodeTc 0x7FFC0000#32 = 8191 ∧ decodeTc 0x80000000#32 = -8192 ∧ decodeTc 0xFFFC0000#32 = -1 ∧
    decodeTc 0x000DB0C0#32 = 3 ∧ decodeTc 0x0193FFF8#32 = 100 := by decide
/-- R75's table. -/
theorem test_fahrenheitRaw_corners :
    fahrenheitRaw 0 = 640 ∧ fahrenheitRaw (-1) = 631 ∧ fahrenheitRaw 8191 = 74359 ∧ fahrenheitRaw (-8192) = -73088 := by decide
/-- V5. -/
theorem test_maskedFaults :
    maskedFaults 0x00000005#32 0b011#3 = 0b001#3 ∧ maskedFaults 0x00000002#32 0b101#3 = 0b000#3 := by decide

/-! ### The assembler (R60, R61) -/

theorem test_asm_hex_and_comment : assembleLine "  SET_MASK 0x07 ; all faults" = .word 0x0702#16 := by decide
theorem test_asm_binary : assembleLine "SET_MASK 0b101" = .word 0x0502#16 := by decide
theorem test_asm_range : assembleLine "SET_MASK 256" = .error ∧ assembleLine "SET_MASK 255" = .word 0xFF02#16 := by decide
theorem test_asm_stray : assembleLine "BEGIN 0" = .error ∧ assembleLine "begin" = .error ∧ assembleLine "; nothing" = .empty := by
  decide

/-! ### Witnesses: a state and operands that meet the hypotheses of each statement that has some -/

/-- IllegalWordsOnlyGetTheIllegalResponse, StatusesByCommand: each condition of R58 at a boundary. -/
theorem witness_illegalWord :
    (presenting 0x0104#16).commands = 0x0104#16 :: [] ∧ IllegalWord 0x0104#16 ∧ IllegalWord 0x0000#16 ∧
    IllegalWord 0x0008#16 ∧ IllegalWord 0x0012#16 := by decide
/-- LegalWordsNumber262, second clause. -/
theorem witness_oneWord : isSetMask (some Instr.begin) = false ∧ isSetMask (some Instr.getConfig) = false := by decide
/-- StepRunsTheDecodedCommand, both clauses; DispatchSelectsByOpcode; EveryPresentedWordGetsOneResponse. -/
theorem witness_stepRuns :
    (presenting 0xFF02#16).commands = 0xFF02#16 :: [] ∧ decode 0xFF02#16 = some (.setMask 0xFF#8) ∧
    (State.construct params).commands = [] := by decide
/-- ResetValuesAndSilenceUntilReady, its clauses about a step. -/
theorem witness_silentStep :
    step (presenting 0x0002#16) = .next (stepped (presenting 0x0002#16)) ∧ (stepped (presenting 0x0002#16)).init = 0#1 :=
  ⟨rfl, by decide⟩
/-- ReadyIsForeverAndOnlySetMaskChangesMask, the clause about `MASK`. -/
theorem witness_maskChanges :
    step (presenting 0x0002#16) = .next (stepped (presenting 0x0002#16)) ∧
    (stepped (presenting 0x0002#16)).mask ≠ (presenting 0x0002#16).mask := ⟨rfl, by decide⟩
/-- ReadyIsForeverAndOnlySetMaskChangesMask, the clause about `INIT`. -/
theorem witness_readyStep :
    ({ presenting 0x0002#16 with init := 1#1 } : State).init = 1#1 ∧
    step { presenting 0x0002#16 with init := 1#1 } = .next (stepped { presenting 0x0002#16 with init := 1#1 }) := ⟨rfl, rfl⟩
/-- FrameBytesAreBigEndian. -/
theorem witness_okAnswer : (bytes 0xFF#8 0#8 0#8 0x01#8).ok = true := by decide
/-- FahrenheitPropagatesOrConverts, FahrenheitConversionIsExact, MaskedBitsNameTheSubclass. -/
theorem witness_celsius_both :
    celsius 0x00000001#32 0b111#3 = .fault 0b001#3 ∧ celsius 0x00000007#32 0b110#3 = .fault 0b110#3 ∧
    celsius 0x80000000#32 0b111#3 = .ok (-8192) := by decide
/-- DecodePathsAreIndependent, each clause with two different frames. -/
theorem witness_fieldsAgree :
    (0xFFFF7FFF#32 : Frame).extractLsb' 4 12 = (0x00007FF0#32 : Frame).extractLsb' 4 12 ∧
    (0x0193FFF8#32 : Frame).extractLsb' 18 14 = (0x01900000#32 : Frame).extractLsb' 18 14 ∧
    (0x01900007#32 : Frame).extractLsb' 0 3 = (0x00000007#32 : Frame).extractLsb' 0 3 := by decide
/-- UnfaultedReadingIsNegativeExactlyWithBit31. -/
theorem witness_unfaulted : faulted 0xFFFC0000#32 0b111#3 = false ∧ faulted 0x7FFC0007#32 0b000#3 = false := by decide
/-- ResponseFieldsReadBack, at both ends of the range. -/
theorem witness_valueRange : (-2 : Int) ^ 31 ≤ -2147483648 ∧ (2147483647 : Int) < 2 ^ 31 := by decide
/-- NoDataExactlyWhenTheTestHolds, StatusesByCommand, FailedReadsKeepMaskAndInitialise. -/
theorem witness_reads : isRead .readInternal = true ∧ isRead .readCelsius = true ∧ isRead .readFahrenheit = true ∧
    isRead .readFault = true ∧ isRead .getConfig = false := by decide
/-- InternalAndFaultReadsIgnoreMask, FaultExactlyWhenAnEnforcedBitIsSet. -/
theorem witness_commandChoice :
    (Instr.readFault = .readInternal ∨ Instr.readFault = .readFault) ∧
    (Instr.readFahrenheit = .readCelsius ∨ Instr.readFahrenheit = .readFahrenheit) := by decide
/-- FaultExactlyWhenAnEnforcedBitIsSet, the clause about `fbits`. -/
theorem witness_fault :
    exec .readCelsius (withAnswer 1#1 0b010#3 (bytes 0#8 0#8 0#8 0x06#8)) =
      .next (nextOr State.reset (exec .readCelsius (withAnswer 1#1 0b010#3 (bytes 0#8 0#8 0#8 0x06#8)))) ∧
    lastStatus (nextOr State.reset (exec .readCelsius (withAnswer 1#1 0b010#3 (bytes 0#8 0#8 0#8 0x06#8)))) = 1#2 :=
  ⟨rfl, by decide⟩
/-- FailedReadsKeepMaskAndInitialise, the clause about a status that is not OK. -/
theorem witness_failedRead :
    lastStatus (nextOr State.reset (exec .readInternal (withAnswer 0#1 0b111#3 default))) ≠ 0#2 := by decide
/-- ZeroFramePolicy. -/
theorem witness_zeroFrame :
    isRead .readFahrenheit = true ∧
    (withAnswer 0#1 0b111#3 (bytes 0#8 0#8 0#8 0#8)).nextAnswer.ok = true ∧
    drawnFrame (withAnswer 0#1 0b111#3 (bytes 0#8 0#8 0#8 0#8)) = 0#32 := by decide
/-- NotReadyBytesAreNeverRead, with two different answers. -/
theorem witness_notReady :
    isRead .readFault = true ∧ (default : TransportAnswer).ok = false ∧ (⟨false, 1, 2, 3, 4⟩ : TransportAnswer).ok = false := by
  decide
/-- UnusedFrameBitsChangeNoResponse, with two different frames. -/
theorem witness_unusedBits :
    isRead .readCelsius = true ∧ (bytes 0x01#8 0x90#8 0#8 0#8).ok = true ∧ (bytes 0x01#8 0x93#8 0#8 0x08#8).ok = true ∧
    acquiredFrame (bytes 0x01#8 0x90#8 0#8 0#8) ≠ 0#32 ∧ acquiredFrame (bytes 0x01#8 0x93#8 0#8 0x08#8) ≠ 0#32 ∧
    acquiredFrame (bytes 0x01#8 0x90#8 0#8 0#8) &&& 0xFFFCFFF7#32 =
      acquiredFrame (bytes 0x01#8 0x93#8 0#8 0x08#8) &&& 0xFFFCFFF7#32 := by decide
/-- NewMaskAppliesToTheNextCommand. -/
theorem witness_maskThenRead :
    ((presenting 0x0004#16).present 0x0602#16).commands = encode (.setMask 0x06#8) :: encode .readCelsius :: [] := by decide
/-- A Ready instance in mid-run, with one draw behind it, that is about to read. -/
def midRun : State :=
  { stepped { presenting 0x0003#16 with answers := [bytes 0#8 0#8 0#8 0x01#8] } with commands := [0x0006#16] }

theorem midRun_responses : midRun.responses = [0x0000000000000000#64] := by decide

/-- ResponsesStayWellFormed, BusStaysDisciplined, InitKeepsMatchingTheTrace, DrawsKeepMatchingTheTrace. -/
theorem witness_invariants :
    (BusDisciplined midRun ∧ InitMatchesTrace midRun ∧ DrawsMatchTrace midRun ∧
      ∀ w ∈ midRun.responses, ResponseWellFormed w) ∧ step midRun = .next (stepped midRun) :=
  ⟨⟨by decide, by decide, by decide, by
    rw [midRun_responses, List.forall_mem_singleton]
    decide⟩, rfl⟩
theorem witness_invariants_ready : midRun.init = 1#1 ∧ midRun.draws = 1 ∧ midRun.csLevel = some .high := by decide

/-- Two instances, the first of which has a read to perform. -/
def platform : Platform :=
  { instances := [{ presenting 0x0003#16 with answers := [bytes 0#8 0#8 0#8 0x01#8] }, presenting 0x0001#16], bus := [] }

/-- The platform after instance `k` has performed its next command. -/
def platformAfter (k : Nat) : Platform :=
  match platform.stepInstance k with
  | .next q => q
  | .fault _ => platform
  | .refused _ => platform

/-- InstancesShareNoState, SharedBusStaysExclusive. -/
theorem witness_platform :
    platform.instances[0]?.isSome = true ∧ BusExclusive platform ∧ platform.stepInstance 0 = .next (platformAfter 0) :=
  ⟨by decide, by decide, rfl⟩
theorem test_platform_isolated :
    (platformAfter 0).bus.length = 14 ∧ (platformAfter 0).instances[1]? = platform.instances[1]? := by decide
/-- SharedBusKeepsAgreeingWithTraces. -/
theorem witness_platformAgrees : BusAgrees platform := by
  intro k s h
  match k with
  | 0 => cases h; rfl
  | 1 => cases h; rfl
  | k + 2 => simp [platform] at h
/-- AssembledWordsAreLegal. -/
theorem witness_assembled : assembleLine "READ_CELSIUS" = .word 0x0004#16 := by decide
/-- EveryReadTakesItsOwnDraw, both clauses. -/
theorem witness_draws :
    isRead .readFault = true ∧ (State.construct params).answers = [] ∧
    ({ State.construct params with answers := [default, bytes 1#8 2#8 3#8 4#8] } : State).answers =
      default :: bytes 1#8 2#8 3#8 4#8 :: [] := by decide
/-- Two fresh instances of a platform draw from streams of their own (U9). -/
theorem test_platform_streams :
    ((State.construct params).onStream 0).nextAnswer = Config.freeAnswer 0 0 ∧
    ((State.construct params).onStream 1).nextAnswer = Config.freeAnswer 1 0 := ⟨rfl, rfl⟩
/-- AssemblerTakesAnOperandOnlyForSetMask. -/
theorem witness_notSetMask : Mnemonic.begin ≠ .setMask ∧ Mnemonic.getConfig ≠ .setMask := by decide

end Sys2Proof.Tests
end

section
/-! SUPPORT. The closed forms of the decode functions (R68, R72), the branches of `celsius` and `fahrenheit`, and the
exact conversion. Then the statements of 00_scope.md: R13 in R75, R69 and R74, and R11 in R81. -/

namespace Sys2Proof.Proofs

open Sys2Proof.Machine

/-! ### Sign extension of a frame field

Each decode function reads a field `x` of `w` bits through a word `y` that holds its low `k` bits, where `k` leaves the
sign bit out (`decode_internal`) or not (`decode_tc`). -/

/-- Where the field is negative, ones ORed in from bit `k` up extend its sign. -/
theorem toInt_ones_or {v w k : Nat} (x : BitVec w) (y : BitVec v) (hneg : x.msb = true) (hwv : w ≤ v) (hkw : k ≤ w)
    (hwk : w ≤ k + 1) (hlow : ∀ i < k, y.getLsbD i = x.getLsbD i) :
    ((BitVec.allOnes v <<< k) ||| y).toInt = x.toInt := by
  have hsign : x.getLsbD (w - 1) = true := by rwa [← BitVec.msb_eq_getLsbD_last]
  rw [← BitVec.toInt_signExtend_of_le hwv]
  congr 1
  ext i hi
  rw [BitVec.getElem_or, BitVec.getElem_shiftLeft, BitVec.getElem_signExtend]
  by_cases hik : i < k
  · have hbit := hlow i hik
    rw [BitVec.getLsbD_eq_getElem hi] at hbit
    simp [hik, hbit, show i < w by omega]
  · by_cases hiw : i < w
    · simp_all [show i = w - 1 by omega]
    · simp [hik, hiw, hneg]

/-- Where the field is not negative, its low `k` bits are its value. -/
theorem toNat_eq_toInt_of_low {v w k : Nat} (x : BitVec w) (y : BitVec v) (hpos : x.msb = false) (hwv : w ≤ v)
    (hwk : w ≤ k + 1) (hbits : ∀ i, y.getLsbD i = (decide (i < k) && x.getLsbD i)) : (y.toNat : Int) = x.toInt := by
  have hfield : y = x.setWidth v := by
    ext i hi
    rw [← BitVec.getLsbD_eq_getElem, hbits, BitVec.getElem_setWidth]
    by_cases hik : i < k
    · simp [hik]
    · have hzero : x.getLsbD i = false := by
        obtain rfl | hiw : i = w - 1 ∨ w ≤ i := by omega
        · rwa [← BitVec.msb_eq_getLsbD_last]
        · exact BitVec.getLsbD_of_ge x i hiw
      simp [hzero]
  rw [hfield, BitVec.toNat_setWidth_of_le hwv, BitVec.toInt_eq_toNat_of_msb hpos]

/-- Masking with the low `k` ones keeps the bits below `k`. -/
theorem getLsbD_and_lowOnes {v : Nat} (k : Nat) (x : BitVec v) (i : Nat) :
    (x &&& (BitVec.allOnes k).setWidth v).getLsbD i = (decide (i < k) && x.getLsbD i) := by
  by_cases hiv : i < v
  · simp [hiv, Bool.and_comm]
  · simp [BitVec.getLsbD_of_ge x i (by omega)]

/-! ### The internal field (R67, R68) -/

theorem msb_internalField (f : Frame) : (f.extractLsb' 4 12).msb = f.getLsbD 15 := by
  simp [BitVec.msb_eq_getLsbD_last]

theorem and_0x800_ne_zero_iff (x : BitVec 32) : x &&& 0x800#32 ≠ 0#32 ↔ x.getLsbD 11 = true := by
  have hbit : 0x800#32 = BitVec.twoPow 32 11 := by decide
  rw [hbit, BitVec.and_twoPow]
  cases x.getLsbD 11 <;> decide

/-- R68: `decode_internal` is `sext_12` of frame bits 15:4. -/
theorem decodeInternal_eq_toInt (f : Frame) : decodeInternal f = (f.extractLsb' 4 12).toInt := by
  have hones : (0xF800#32).setWidth 16 = BitVec.allOnes 16 <<< 11 := by decide
  have hmask : 0x7FF#32 = (BitVec.allOnes 11).setWidth 32 := by decide
  have hsign : (f >>> 4).getLsbD 11 = (f.extractLsb' 4 12).msb := by
    rw [msb_internalField, BitVec.getLsbD_ushiftRight]
  have hbits (i : Nat) :
      (f >>> 4 &&& 0x7FF#32).getLsbD i = (decide (i < 11) && (f.extractLsb' 4 12).getLsbD i) := by
    rw [hmask, getLsbD_and_lowOnes, BitVec.getLsbD_ushiftRight, BitVec.getLsbD_extractLsb']
    by_cases hi : i < 11
    · simp [hi, show i < 12 by omega]
    · simp [hi]
  simp only [decodeInternal, sext, and_0x800_ne_zero_iff, hsign, BitVec.setWidth_or, hones]
  split
  next hneg =>
    refine toInt_ones_or _ _ hneg (by decide) (by decide) (by decide) fun i hi => ?_
    rw [BitVec.getLsbD_setWidth, hbits]
    simp [hi, show i < 16 by omega]
  next hpos => exact toNat_eq_toInt_of_low _ _ (by simpa using hpos) (by decide) (by decide) hbits

theorem decodeInternal_bounds (f : Frame) : -2048 ≤ decodeInternal f ∧ decodeInternal f ≤ 2047 := by
  rw [decodeInternal_eq_toInt]
  have hlow := BitVec.le_toInt (f.extractLsb' 4 12)
  have hhigh := BitVec.toInt_lt (x := f.extractLsb' 4 12)
  omega

/-! ### The thermocouple field (R71, R72) -/

theorem msb_tcField (f : Frame) : (f.extractLsb' 18 14).msb = f.getLsbD 31 := by
  simp [BitVec.msb_eq_getLsbD_last]

theorem frameSign_eq_one_iff (f : Frame) : frameSign f = 1#1 ↔ (f.extractLsb' 18 14).msb = true := by
  have hbit : (f.extractLsb' 31 1)[0] = f.getLsbD 31 := by simp
  rw [frameSign, msb_tcField, ← hbit]
  generalize f.extractLsb' 31 1 = b
  revert b
  decide

/-- R72: `decode_tc` is `sext_14` of frame bits 31:18. -/
theorem decodeTc_eq_toInt (f : Frame) : decodeTc f = (f.extractLsb' 18 14).toInt := by
  have hones : 0xFFFFC000#32 = BitVec.allOnes 32 <<< 14 := by decide
  have hmask : 0x3FFF#32 = (BitVec.allOnes 14).setWidth 32 := by decide
  have hbits (i : Nat) : (f >>> 18).getLsbD i = (decide (i < 14) && (f.extractLsb' 18 14).getLsbD i) := by
    rw [BitVec.getLsbD_ushiftRight, BitVec.getLsbD_extractLsb']
    by_cases hi : i < 14
    · simp [hi]
    · simp [hi, BitVec.getLsbD_of_ge f (18 + i) (by omega)]
  simp only [decodeTc, sext, frameSign_eq_one_iff, hones]
  split
  next hneg =>
    refine toInt_ones_or _ _ hneg (by decide) (by decide) (by decide) fun i hi => ?_
    rw [hmask, getLsbD_and_lowOnes, hbits]
    simp [hi]
  next hpos => exact toNat_eq_toInt_of_low _ _ (by simpa using hpos) (by decide) (by decide) hbits

theorem decodeTc_bounds (f : Frame) : -8192 ≤ decodeTc f ∧ decodeTc f ≤ 8191 := by
  rw [decodeTc_eq_toInt]
  have hlow := BitVec.le_toInt (f.extractLsb' 18 14)
  have hhigh := BitVec.toInt_lt (x := f.extractLsb' 18 14)
  omega

/-- The sign of a reading is bit 13 of its field, which is frame bit 31. -/
theorem decodeTc_neg_iff (f : Frame) : decodeTc f < 0 ↔ f.getLsbD 31 = true := by
  rw [decodeTc_eq_toInt, ← msb_tcField, BitVec.msb_eq_toInt, decide_eq_true_iff]

/-! ### The thermocouple results (R73, R75) -/

theorem celsius_of_not_faulted {f : Frame} {mask : BitVec 3} (h : faulted f mask = false) :
    celsius f mask = .ok (decodeTc f) := by
  simp [celsius, h]

theorem celsius_of_faulted {f : Frame} {mask : BitVec 3} (h : faulted f mask = true) :
    celsius f mask = .fault (maskedFaults f mask) := by
  simp [celsius, h]

/-- A number is given only for a frame without an enforced fault, and it is the decoded one. -/
theorem celsius_eq_ok_iff {f : Frame} {mask : BitVec 3} {tc : Int} :
    celsius f mask = .ok tc ↔ faulted f mask = false ∧ decodeTc f = tc := by
  cases h : faulted f mask
  · simp [celsius_of_not_faulted h]
  · simp [celsius_of_faulted h]

theorem fahrenheit_of_celsius_ok {f : Frame} {mask : BitVec 3} {tc : Int} (h : celsius f mask = .ok tc) :
    fahrenheit f mask = .ok (fahrenheitRaw tc) := by
  simp [fahrenheit, h]

theorem fahrenheitRaw_bounds (f : Frame) :
    -73088 ≤ fahrenheitRaw (decodeTc f) ∧ fahrenheitRaw (decodeTc f) ≤ 74359 := by
  obtain ⟨hlow, hhigh⟩ := decodeTc_bounds f
  unfold fahrenheitRaw
  omega

/-- R75: the integer conversion `9 * tc + 640`, read in its units, loses nothing. -/
theorem fahrenheitDegrees_fahrenheitRaw (tc : Int) :
    fahrenheitDegrees (fahrenheitRaw tc) = tcDegrees tc * 9 / 5 + 32 := by
  unfold fahrenheitDegrees fahrenheitRaw tcDegrees
  push_cast
  ring

/-! ### The ranges in degrees -/

/-- Bounds on a fixed-point result, carried over to the temperature it stands for. -/
theorem div_bounds_of_int_bounds {lo n hi : Int} (h : lo ≤ n ∧ n ≤ hi) {d : Rat} (hd : 0 < d) :
    (lo : Rat) / d ≤ (n : Rat) / d ∧ (n : Rat) / d ≤ (hi : Rat) / d := by
  obtain ⟨hlow, hhigh⟩ := h
  constructor <;> gcongr

theorem internalDegrees_bounds (f : Frame) :
    -128 ≤ internalDegrees (decodeInternal f) ∧ internalDegrees (decodeInternal f) ≤ 127.9375 := by
  have h := div_bounds_of_int_bounds (decodeInternal_bounds f) (d := 16) (by norm_num)
  norm_num at h ⊢
  exact h

theorem tcDegrees_bounds (f : Frame) : -2048 ≤ tcDegrees (decodeTc f) ∧ tcDegrees (decodeTc f) ≤ 2047.75 := by
  have h := div_bounds_of_int_bounds (decodeTc_bounds f) (d := 4) (by norm_num)
  norm_num at h ⊢
  exact h

theorem fahrenheitDegrees_bounds (f : Frame) :
    -3654.4 ≤ fahrenheitDegrees (fahrenheitRaw (decodeTc f)) ∧
      fahrenheitDegrees (fahrenheitRaw (decodeTc f)) ≤ 3717.95 := by
  have h := div_bounds_of_int_bounds (fahrenheitRaw_bounds f) (d := 20) (by norm_num)
  norm_num at h ⊢
  exact h

/-! ### The statements -/

/-- Settles O29: the reading is the decoded field, whose conversion is exact and in range. -/
theorem fahrenheitConversionIsExact : Obligations.FahrenheitConversionIsExact := by
  intro f mask tc h
  obtain ⟨-, rfl⟩ := celsius_eq_ok_iff.mp h
  exact ⟨fahrenheitRaw (decodeTc f), fahrenheit_of_celsius_ok h, fahrenheitDegrees_fahrenheitRaw (decodeTc f),
    fahrenheitRaw_bounds f⟩

/-- Settles O30: each range is the integer result's range over its unit. -/
theorem temperaturesKeepTheirRanges : Obligations.TemperaturesKeepTheirRanges := by
  intro f
  obtain ⟨hintLow, hintHigh⟩ := internalDegrees_bounds f
  obtain ⟨htcLow, htcHigh⟩ := tcDegrees_bounds f
  obtain ⟨hfLow, hfHigh⟩ := fahrenheitDegrees_bounds f
  exact ⟨rfl, hintLow, hintHigh, rfl, htcLow, htcHigh, fahrenheitDegrees_fahrenheitRaw (decodeTc f), hfLow, hfHigh⟩

/-- Settles O33: without an enforced fault the result is `decode_tc`, whose sign is frame bit 31. -/
theorem unfaultedReadingIsNegativeExactlyWithBit31 : Obligations.UnfaultedReadingIsNegativeExactlyWithBit31 :=
  fun f _ h => ⟨decodeTc f, celsius_of_not_faulted h, decodeTc_neg_iff f⟩

end Sys2Proof.Proofs
end

section
/-! SUPPORT. What a command, and what a step, does to the ports and the registers. Then the statements of 10_state.md:
the frame of a command (R17 to R19, R22, R25, R26), what no command reads, and the invariants of a step. -/

namespace Sys2Proof.Proofs

open Sys2Proof.Machine Sys2Proof.Safety Sys2Proof.Claims

/-! ### The commands in closed form -/

theorem exec_begin_eq (s : State) :
    exec .begin s =
      .next { s with
        init := 1#1
        trace := s.trace ++ beginTrace s.params
        responses := s.responses ++ [responseWord .ok 0#3 0#3 0] } := by
  simp [exec, execBegin, State.beginActions_eq, State.respond]

theorem exec_setMask_eq (m : BitVec 8) (s : State) :
    exec (.setMask m) s =
      .next { s with
        mask := m.extractLsb' 0 3
        responses := s.responses ++ [responseWord .ok 0#3 0#3 0] } := rfl

theorem exec_getConfig_eq (s : State) :
    exec .getConfig s =
      .next { s with responses := s.responses ++ [responseWord .ok 0#3 0#3 (configValue s)] } := rfl

/-- The response of a read command that answers `word f mask` to a frame `f` (R92). -/
def readResponse (word : Frame → BitVec 3 → ResponseWord) (s : State) : ResponseWord :=
  if noData s.params.zeroIsNodata s.nextAnswer.ok (acquiredFrame s.nextAnswer) then responseWord .noData 0#3 0#3 0
  else word (acquiredFrame s.nextAnswer) s.mask

/-- A transport that is not ready gives NODATA, whatever it put in the bytes (R85). -/
theorem readResponse_of_not_ready (word : Frame → BitVec 3 → ResponseWord) {s : State} (h : s.nextAnswer.ok = false) :
    readResponse word s = responseWord .noData 0#3 0#3 0 := by
  simp [readResponse, noData, h]

/-- A read command whose reply appends one word does to the state what every read does. -/
theorem readCommand_eq_afterRead {reply : Frame → State → State} {word : Frame → BitVec 3 → ResponseWord}
    (hreply : ∀ f t, reply f t = { t with responses := t.responses ++ [word f t.mask] }) (s : State) :
    s.readCommand reply = afterRead s (readResponse word s) := by
  obtain ⟨hnd, hread⟩ | ⟨hnd, hread⟩ := s.readCommand_cases reply
  · simp [hread, readResponse, hnd, State.readFrame_eq, State.respond, afterRead]
  · simp [hread, hreply, readResponse, hnd, State.readFrame_eq, afterRead]

/-- The word of a thermocouple reply (R94, R95). -/
def tcWord : TcResult → ResponseWord
  | .fault fb => responseWord .fault fb 0#3 0
  | .ok n => responseWord .ok 0#3 0#3 n

theorem replyTc_eq (r : TcResult) (s : State) :
    s.replyTc r = { s with responses := s.responses ++ [tcWord r] } := by
  cases r <;> rfl

theorem exec_readInternal_eq (s : State) :
    exec .readInternal s =
      .next (afterRead s (readResponse (fun f _ => responseWord .ok 0#3 0#3 (decodeInternal f)) s)) :=
  congrArg Host.Outcome.next (readCommand_eq_afterRead (fun _ _ => by rfl) s)

theorem exec_readCelsius_eq (s : State) :
    exec .readCelsius s = .next (afterRead s (readResponse (fun f mask => tcWord (celsius f mask)) s)) :=
  congrArg Host.Outcome.next (readCommand_eq_afterRead (fun _ _ => replyTc_eq _ _) s)

theorem exec_readFahrenheit_eq (s : State) :
    exec .readFahrenheit s = .next (afterRead s (readResponse (fun f mask => tcWord (fahrenheit f mask)) s)) :=
  congrArg Host.Outcome.next (readCommand_eq_afterRead (fun _ _ => replyTc_eq _ _) s)

theorem exec_readFault_eq (s : State) :
    exec .readFault s =
      .next (afterRead s (readResponse
        (fun f _ => responseWord .ok 0#3 (kindCode (classify (faultCode f))) (faultCode f).toNat) s)) :=
  congrArg Host.Outcome.next (readCommand_eq_afterRead (fun _ _ => by rfl) s)

/-- The reply of READ_INTERNAL and of READ_FAULT is a function of the frame alone. -/
theorem exec_maskless_read {i : Instr} (hi : i = .readInternal ∨ i = .readFault) :
    ∃ word : Frame → ResponseWord, ∀ s, exec i s = .next (afterRead s (readResponse (fun f _ => word f) s)) := by
  obtain rfl | rfl := hi
  · exact ⟨_, exec_readInternal_eq⟩
  · exact ⟨_, exec_readFault_eq⟩

/-- Every read command is one acquisition and a response, its reply a function of the frame and `MASK`. -/
theorem exec_read {i : Instr} (hread : isRead i = true) :
    ∃ word, ∀ s, exec i s = .next (afterRead s (readResponse word s)) := by
  match i, hread with
  | .readInternal, _ => exact ⟨_, exec_readInternal_eq⟩
  | .readCelsius, _ => exact ⟨_, exec_readCelsius_eq⟩
  | .readFahrenheit, _ => exact ⟨_, exec_readFahrenheit_eq⟩
  | .readFault, _ => exact ⟨_, exec_readFault_eq⟩

/-! ### The frame of a command -/

/-- Settles O21: the four reads share one closed form, the other three have their own. -/
theorem everyCommandHasItsFrame : Obligations.EveryCommandHasItsFrame := by
  intro i s
  cases i with
  | begin => exact ⟨_, _, _, exec_begin_eq s, rfl, rfl, rfl, rfl, rfl, rfl, rfl, rfl, rfl, rfl⟩
  | setMask m =>
    exact ⟨_, _, [], exec_setMask_eq m s, rfl, rfl, rfl, rfl, rfl, rfl, rfl, rfl, (List.append_nil _).symm, rfl⟩
  | getConfig =>
    exact ⟨_, _, [], exec_getConfig_eq s, rfl, rfl, rfl, rfl, rfl, rfl, rfl, rfl, (List.append_nil _).symm, rfl⟩
  | readInternal | readCelsius | readFahrenheit | readFault =>
    exact (exec_read (by rfl)).elim fun word hexec =>
      ⟨_, _, _, hexec s, rfl, rfl, rfl, rfl, rfl, rfl, rfl, rfl, rfl, rfl⟩

/-! ### What a step does to the ports -/

/-- How `t` differs from `s` in `INIT`, the draw counter and the trace: not at all, by `BeginActions`, or by a read. -/
inductive PortEffect (s t : State) : Prop
  | silent (hinit : t.init = s.init) (hdraws : t.draws = s.draws) (htrace : t.trace = s.trace)
  | begun (hinit : t.init = 1#1) (hdraws : t.draws = s.draws) (htrace : t.trace = s.trace ++ beginTrace s.params)
  | read (hinit : t.init = 1#1) (hdraws : t.draws = s.draws + 1) (htrace : t.trace = s.trace ++ readTrace s)

theorem PortEffect.exists_trace_append {s t : State} (h : PortEffect s t) : ∃ evs, t.trace = s.trace ++ evs := by
  cases h with
  | silent _ _ htrace => exact ⟨[], by rw [htrace, List.append_nil]⟩
  | begun _ _ htrace => exact ⟨_, htrace⟩
  | read _ _ htrace => exact ⟨_, htrace⟩

theorem exec_portEffect (i : Instr) (s : State) :
    ∃ t r, exec i s = .next t ∧ t.params = s.params ∧ t.commands = s.commands ∧ t.responses = s.responses ++ [r] ∧
      PortEffect s t := by
  obtain ⟨t, r, evs, hexec, hparams, hcommands, -, -, hinit, -, hdraws, hresponses, htrace, rfl⟩ :=
    everyCommandHasItsFrame i s
  refine ⟨t, r, hexec, hparams, hcommands, hresponses, ?_⟩
  cases i with
  | begin => exact .begun hinit hdraws htrace
  | setMask | getConfig => exact .silent hinit hdraws (htrace.trans (List.append_nil _))
  | readInternal | readCelsius | readFahrenheit | readFault => exact .read hinit hdraws htrace

/-- A presented word, legal or not, is taken off the port and answered by one response (R25, R103). -/
theorem step_presented {s : State} {w : CommandWord} {rest : List CommandWord} (hw : s.commands = w :: rest) :
    ∃ t r, step s = .next t ∧ t.params = s.params ∧ t.commands = rest ∧ t.responses = s.responses ++ [r] ∧
      PortEffect s t := by
  have htake : s.takeCommand.commands = rest := by simp [hw]
  cases hd : decode w with
  | none =>
    have hstep : step s = illegalCommand s.takeCommand := by simp [step, State.presented, hw, hd]
    exact ⟨_, _, hstep, rfl, htake, rfl, .silent rfl rfl rfl⟩
  | some i =>
    have hstep : step s = exec i s.takeCommand := by simp [step, State.presented, hw, hd]
    obtain ⟨t, r, hexec, hparams, hcommands, hresponses, heffect⟩ := exec_portEffect i s.takeCommand
    refine ⟨t, r, hstep.trans hexec, hparams, hcommands.trans htake, hresponses, ?_⟩
    cases heffect with
    | silent hinit hdraws htrace => exact .silent hinit hdraws htrace
    | begun hinit hdraws htrace => exact .begun hinit hdraws htrace
    | read hinit hdraws htrace => exact .read hinit hdraws htrace

/-- A step leaves an idle block as it is, or answers one word. -/
theorem step_portEffect {s t : State} (h : step s = .next t) :
    t = s ∨ ∃ r, t.params = s.params ∧ t.responses = s.responses ++ [r] ∧ PortEffect s t := by
  cases hw : s.commands with
  | nil =>
    have hidle : step s = .next s := by simp [step, State.presented, hw]
    rw [hidle, Host.Outcome.next.injEq] at h
    exact .inl h.symm
  | cons w rest =>
    obtain ⟨t', r, hstep, hparams, -, hresponses, heffect⟩ := step_presented hw
    rw [hstep, Host.Outcome.next.injEq] at h
    subst h
    exact .inr ⟨r, hparams, hresponses, heffect⟩

/-- No step takes back an event. -/
theorem step_trace_append {s t : State} (h : step s = .next t) : ∃ evs, t.trace = s.trace ++ evs := by
  obtain rfl | ⟨_, _, _, heffect⟩ := step_portEffect h
  · exact ⟨[], (List.append_nil _).symm⟩
  · exact heffect.exists_trace_append

/-! ### `INIT` and the trace (R27, R29) -/

theorem busInit_mem_beginTrace (p : Params) : .busInit p.periphId p.baud ∈ beginTrace p := by
  simp [beginTrace]

theorem lastLevel_beginTrace (p : Params) : lastLevel p.csPin (beginTrace p) = some .high := by
  rw [beginTrace, lastLevel_append]
  simp [lastLevel]

theorem lastLevel_readTrace (s : State) : lastLevel s.params.csPin (readTrace s) = some .high := by
  rw [readTrace, lastLevel_append]
  simp [acquireTrace, lastLevel]

theorem busInit_mem_readTrace {s : State} (h : s.init = 0#1) :
    .busInit s.params.periphId s.params.baud ∈ readTrace s := by
  simp [readTrace, h, busInit_mem_beginTrace]

/-- What makes the block ready: events that drive chip select high last and, where `INIT` was 0, initialise the
bus. -/
theorem initMatchesTrace_of_ready {s t : State} {evs : List PortEvent} (hs : InitMatchesTrace s)
    (hparams : t.params = s.params) (hinit : t.init = 1#1) (htrace : t.trace = s.trace ++ evs)
    (hbus : s.init = 0#1 → .busInit s.params.periphId s.params.baud ∈ evs)
    (hlevel : lastLevel s.params.csPin evs = some .high) : InitMatchesTrace t := by
  obtain ⟨-, hready⟩ := hs
  have hactive : .busInit s.params.periphId s.params.baud ∈ s.trace ++ evs := by
    obtain h0 | h1 := init_zero_or_one s.init
    · exact List.mem_append_right _ (hbus h0)
    · exact List.mem_append_left _ (List.contains_iff_mem.mp (hready h1).1)
  refine ⟨fun h0 => absurd (hinit.symm.trans h0) (by decide), fun _ => ⟨?_, ?_⟩⟩
  · rw [State.busActive, hparams, htrace]
    exact List.contains_iff_mem.mpr hactive
  · rw [State.csLevel, hparams, htrace, lastLevel_append, hlevel]
    rfl

/-- Settles O51: only `BeginActions` and a read touch the ports, and both leave them ready. -/
theorem initKeepsMatchingTheTrace : Obligations.InitKeepsMatchingTheTrace := by
  intro s t hs hstep
  obtain rfl | ⟨_, hparams, -, heffect⟩ := step_portEffect hstep
  · exact hs
  cases heffect with
  | silent hinit _ htrace => simpa [InitMatchesTrace, State.busActive, State.csLevel, hparams, hinit, htrace] using hs
  | begun hinit _ htrace =>
    exact initMatchesTrace_of_ready hs hparams hinit htrace (fun _ => busInit_mem_beginTrace _) (lastLevel_beginTrace _)
  | read hinit _ htrace =>
    exact initMatchesTrace_of_ready hs hparams hinit htrace busInit_mem_readTrace (lastLevel_readTrace _)

/-! ### Draws, transfers and responses (R26, R40) -/

theorem xferCount_beginTrace (p : Params) : xferCount (beginTrace p) = 0 := by
  simp [beginTrace, xferCount, isXfer]

theorem xferCount_readTrace (s : State) : xferCount (readTrace s) = 1 := by
  have hinit : xferCount (if s.init = 0#1 then beginTrace s.params else []) = 0 := by
    split
    · exact xferCount_beginTrace _
    · rfl
  rw [readTrace, xferCount_append, hinit]
  rfl

/-- Settles O52: a read adds one draw and one transfer, every answered word one response. -/
theorem drawsKeepMatchingTheTrace : Obligations.DrawsKeepMatchingTheTrace := by
  intro s t hs hstep
  obtain rfl | ⟨_, -, hresponses, heffect⟩ := step_portEffect hstep
  · exact hs
  obtain ⟨hcount, hle⟩ := hs
  have hlen : t.responses.length = s.responses.length + 1 := by simp [hresponses]
  cases heffect with
  | silent _ hdraws htrace => exact ⟨by rw [hdraws, htrace, hcount], by omega⟩
  | begun _ hdraws htrace =>
    exact ⟨by rw [hdraws, htrace, xferCount_append, xferCount_beginTrace, hcount, Nat.add_zero], by omega⟩
  | read _ hdraws htrace =>
    exact ⟨by rw [hdraws, htrace, xferCount_append, xferCount_readTrace, hcount], by omega⟩

/-! ### The shared bus (R24, R110) -/

/-- The events tagged `j`, in order, without their tags. -/
def eventsOf (j : Nat) (bus : List (Nat × PortEvent)) : List PortEvent := (bus.filter fun e => e.1 = j).map fun e => e.2

theorem eventsOf_append (j : Nat) (a b : List (Nat × PortEvent)) :
    eventsOf j (a ++ b) = eventsOf j a ++ eventsOf j b := by
  simp [eventsOf]

theorem eventsOf_newEvents_self {k : Nat} {s t : State} {evs : List PortEvent} (h : t.trace = s.trace ++ evs) :
    eventsOf k (newEvents k s t) = evs := by
  simp [eventsOf, newEvents, h, List.filter_map, Function.comp_def]

theorem eventsOf_newEvents_of_ne {j k : Nat} (s t : State) (h : k ≠ j) : eventsOf j (newEvents k s t) = [] := by
  rw [eventsOf, newEvents, List.filter_map]
  simp [Function.comp_def, h]

/-- Settles O55: the bus gains the events that the trace of number `k` gains, and none under another tag. -/
theorem sharedBusKeepsAgreeingWithTraces : Obligations.SharedBusKeepsAgreeingWithTraces := by
  intro k p q hp hq
  obtain ⟨-, rfl⟩ | ⟨s, t, hs, hstep, rfl⟩ := stepInstance_cases hq
  · exact hp
  obtain ⟨evs, htrace⟩ := step_trace_append hstep
  rw [State.onStream_trace] at htrace
  intro j u hu
  change eventsOf j (p.bus ++ newEvents k s t) = u.trace
  rw [eventsOf_append]
  by_cases hkj : k = j
  · subst hkj
    have hk : k < p.instances.length := (List.getElem?_eq_some_iff.mp hs).1
    obtain rfl : t = u := by simpa [hk] using hu
    rw [eventsOf_newEvents_self htrace, htrace]
    exact congrArg (· ++ evs) (hp k s hs)
  · rw [eventsOf_newEvents_of_ne s t hkj, List.append_nil]
    exact hp j u (by simpa [hkj] using hu)

/-! ### Every word is answered -/

/-- Settles O8: the step of a presented word is a command or the ILLEGAL response, and either answers once. -/
theorem everyPresentedWordGetsOneResponse : Obligations.EveryPresentedWordGetsOneResponse := by
  intro s w rest hw
  obtain ⟨t, r, hstep, -, hcommands, hresponses, heffect⟩ := step_presented hw
  obtain ⟨evs, htrace⟩ := heffect.exists_trace_append
  exact ⟨t, r, evs, hstep, hcommands, hresponses, htrace⟩

theorem run_succ_of_step {s t : State} (h : step s = .next t) (k : Nat) : core.run (k + 1) s = core.run k t := by
  have hcore : core.step s = .next t := h
  simp only [Host.Core.run, hcore]

/-- Settles O9, by induction on the list of presented words. -/
theorem runAnswersEveryPresentedWord : Obligations.RunAnswersEveryPresentedWord := by
  intro s
  induction hw : s.commands generalizing s with
  | nil => exact ⟨s, rfl, hw, rfl, rfl⟩
  | cons w rest ih =>
    obtain ⟨t, r, hstep, hparams, hcommands, hresponses, -⟩ := step_presented hw
    obtain ⟨u, hrun, hdone, hcount, hkept⟩ := ih t hcommands
    refine ⟨u, (run_succ_of_step hstep _).trans hrun, hdone, ?_, hkept.trans hparams⟩
    simp only [hcount, hresponses, List.length_append, List.length_cons, List.length_nil]
    omega

/-! ### What commands do not depend on -/

/-- Settles O43: either answer gives NODATA, and a read uses it up. -/
theorem notReadyBytesAreNeverRead : Obligations.NotReadyBytesAreNeverRead := by
  intro i s a b rest ha hb hread
  obtain ⟨word, hexec⟩ := exec_read hread
  have hword (c : TransportAnswer) (hc : c.ok = false) :
      readResponse word { s with answers := c :: rest } = responseWord .noData 0#3 0#3 0 :=
    readResponse_of_not_ready word (s := { s with answers := c :: rest }) hc
  rw [hexec, hexec, hword a ha, hword b hb]
  rfl

/-- Settles O45: the response is a function of the answer alone. -/
theorem internalAndFaultReadsIgnoreMask : Obligations.InternalAndFaultReadsIgnoreMask := by
  intro i s m hi
  obtain ⟨word, hexec⟩ := exec_maskless_read hi
  exact ⟨_, hexec s, hexec { s with mask := m }⟩

/-- Settles O46: the response and the events of each command's closed form are those of the state without its trace and
responses. -/
theorem noCommandReadsEarlierResults : Obligations.NoCommandReadsEarlierResults := by
  intro i s
  cases hread : isRead i with
  | true =>
    obtain ⟨word, hexec⟩ := exec_read hread
    exact ⟨_, readResponse word s, readTrace s, hexec s, fun _ _ => hexec _⟩
  | false =>
    match i, hread with
    | .begin, _ =>
      exact ⟨_, responseWord .ok 0#3 0#3 0, beginTrace s.params, exec_begin_eq s, fun _ _ => exec_begin_eq _⟩
    | .setMask m, _ =>
      exact ⟨_, responseWord .ok 0#3 0#3 0, [], exec_setMask_eq m s, fun _ _ => by
        rw [exec_setMask_eq, List.append_nil]⟩
    | .getConfig, _ =>
      exact ⟨_, responseWord .ok 0#3 0#3 (configValue s), [], exec_getConfig_eq s, fun _ _ => by
        rw [exec_getConfig_eq, List.append_nil]
        rfl⟩

/-- Settles O48: a read takes the head of the answers and advances the draw counter. -/
theorem everyReadTakesItsOwnDraw : Obligations.EveryReadTakesItsOwnDraw := by
  intro i s hread
  obtain ⟨word, hexec⟩ := exec_read hread
  refine ⟨_, hexec s, fun a b rest hlisted => ?_, fun hfree => ?_⟩
  · simp [State.nextAnswer, afterRead, hlisted]
  · simp [State.nextAnswer, afterRead, hfree]

/-! ### Construction -/

/-- Settles O12: nothing has been emitted, drawn or returned. -/
theorem constructionMeetsTheInvariants : Obligations.ConstructionMeetsTheInvariants := by
  intro p
  refine ⟨rfl, ⟨fun _ => rfl, fun h1 => absurd h1 ?_⟩, ⟨rfl, Nat.zero_le _⟩, fun w hw => absurd hw ?_⟩
  · simp
  · simp

end Sys2Proof.Proofs
end

section
/-! SUPPORT. The two scans of Safety.lean over the events of a step, the frame of an answer as the statements write it
(R36, R37), and the decoded word of a command. Then the statements of 20_memory.md: the discipline of the bus (R33, R34,
R39, R110), the one transfer of a read (R40), the byte order of the frame (R36), and a new mask's effect (R41). -/

namespace Sys2Proof.Proofs

open Sys2Proof.Machine Sys2Proof.Safety Sys2Proof.Claims

/-! ### The discipline of one instance's bus (R33, R34, R39) -/

theorem csScan_pinFuncs (p : Params) (pins : List (PinId × PinRole)) :
    csScan p .released (pins.map fun x => .pinFunc x.1 x.2) = some .released := by
  induction pins with
  | nil => rfl
  | cons _ _ ih => exact ih

/-- `BeginActions` emits nothing but set-up events, and leaves chip select released (R84). -/
theorem csScan_beginTrace (p : Params) : csScan p .released (beginTrace p) = some .released := by
  have hinit : csScan p .released [.busInit p.periphId p.baud] = some .released := rfl
  rw [beginTrace, csScan_append, csScan_append, hinit, Option.bind_some, csScan_pinFuncs]
  simp [csScan, csStep]

/-- An acquisition is one whole transaction: select, transfer, release (R87). -/
theorem csScan_acquireTrace (p : Params) : csScan p .released (acquireTrace p) = some .released := by
  simp [acquireTrace, csScan, csStep]

theorem csScan_readTrace (s : State) : csScan s.params .released (readTrace s) = some .released := by
  have hinit : csScan s.params .released (if s.init = 0#1 then beginTrace s.params else []) = some .released := by
    split
    · exact csScan_beginTrace _
    · rfl
  rw [readTrace, csScan_append, hinit]
  exact csScan_acquireTrace _

theorem PortEffect.exists_disciplined_append {s t : State} (h : PortEffect s t) :
    ∃ evs, t.trace = s.trace ++ evs ∧ csScan s.params .released evs = some .released := by
  cases h with
  | silent _ _ htrace => exact ⟨[], by rw [htrace, List.append_nil], rfl⟩
  | begun _ _ htrace => exact ⟨_, htrace, csScan_beginTrace _⟩
  | read _ _ htrace => exact ⟨_, htrace, csScan_readTrace s⟩

/-- The events of a step are whole transactions, whatever came before them. -/
theorem step_disciplined_append {s t : State} (h : step s = .next t) :
    t.params = s.params ∧ ∃ evs, t.trace = s.trace ++ evs ∧ csScan s.params .released evs = some .released := by
  obtain rfl | ⟨_, hparams, -, heffect⟩ := step_portEffect h
  · exact ⟨rfl, [], (List.append_nil _).symm, rfl⟩
  · exact ⟨hparams, heffect.exists_disciplined_append⟩

/-- Settles O50: a trace that ends released is followed by whole transactions. -/
theorem busStaysDisciplined : Obligations.BusStaysDisciplined := by
  intro s t hs hstep
  obtain ⟨hparams, evs, htrace, hevs⟩ := step_disciplined_append hstep
  unfold BusDisciplined at hs ⊢
  rw [hparams, htrace, csScan_append, hs]
  exact hevs

/-! ### The shared bus (R39, R110)

An instance that keeps the discipline on its own trace holds the shared bus exactly while its chip select is low, so the
second scan follows the first. -/

/-- Who holds the bus while instance `k` is in a phase and no other instance is in a transaction. -/
def phaseOwner (k : Nat) : CsPhase → Option Nat
  | .released => none
  | .selected => some k
  | .transferred => some k

theorem ownerStep_of_csStep {p : Params} {ph ph' : CsPhase} {e : PortEvent} (k : Nat) (h : csStep p ph e = some ph') :
    ownerStep (phaseOwner k ph) (k, e) = some (phaseOwner k ph') := by
  unfold csStep at h
  split at h
  -- settle events, in any phase
  case h_1 | h_2 =>
    obtain rfl := Option.some.inj h
    cases ph <;> simp [ownerStep, phaseOwner]
  -- set-up events, only while released
  case h_3 | h_4 | h_5 =>
    obtain rfl := Option.some.inj h
    rfl
  -- chip select and the transfer, guarded by the instance's own pin and peripheral
  case h_6 | h_7 | h_8 | h_9 =>
    obtain ⟨-, hphase⟩ := Option.ite_none_right_eq_some.mp h
    obtain rfl := Option.some.inj hphase
    simp [ownerStep, phaseOwner]
  -- every other event breaks the discipline
  case h_10 => cases h

/-- The shared bus follows the phase of the instance whose events it sees. -/
theorem ownerScan_of_csScan {p : Params} {ph ph' : CsPhase} {evs : List PortEvent} (k : Nat)
    (h : csScan p ph evs = some ph') :
    ownerScan (phaseOwner k ph) (evs.map fun e => (k, e)) = some (phaseOwner k ph') := by
  induction evs generalizing ph with
  | nil =>
    obtain rfl := Option.some.inj h
    rfl
  | cons e evs ih =>
    cases hstep : csStep p ph e with
    | none => simp [csScan, hstep] at h
    | some ph₁ =>
      have hrest : csScan p ph₁ evs = some ph' := by simpa [csScan, hstep] using h
      simp only [List.map_cons, ownerScan, ownerStep_of_csStep k hstep]
      exact ih hrest

/-- Settles O54: the events a move appends are whole transactions of one instance, which take the free bus and give it
back. -/
theorem sharedBusStaysExclusive : Obligations.SharedBusStaysExclusive := by
  intro k p q hp hq
  obtain ⟨-, rfl⟩ | ⟨s, t, -, hstep, rfl⟩ := stepInstance_cases hq
  · exact hp
  obtain ⟨-, evs, htrace, hevs⟩ := step_disciplined_append hstep
  rw [State.onStream_trace] at htrace
  have hnew : newEvents k s t = evs.map fun e => (k, e) := by simp [newEvents, htrace]
  unfold BusExclusive at hp ⊢
  rw [ownerScan_append, hp, hnew]
  exact ownerScan_of_csScan k hevs

/-! ### One transfer for each read (R40) -/

/-- Settles O22: the transfers of the events each command's frame gives it. -/
theorem oneTransferForEachRead : Obligations.OneTransferForEachRead := by
  intro i s
  obtain ⟨t, _, evs, hexec, -, -, -, -, -, -, -, -, htrace, hevs⟩ := everyCommandHasItsFrame i s
  refine ⟨t, evs, hexec, htrace, ?_⟩
  rw [hevs]
  split
  · exact xferCount_readTrace s
  · split
    · exact xferCount_beginTrace _
    · rfl

/-! ### The frame of an answer (R36, R37) -/

theorem assembleFrame_eq_append (a : TransportAnswer) : assembleFrame a = a.rx0 ++ a.rx1 ++ a.rx2 ++ a.rx3 := by
  rw [assembleFrame, ← BitVec.setWidth_eq (a.rx0 ++ a.rx1 ++ a.rx2 ++ a.rx3),
    BitVec.setWidth_append_append_append_eq_shiftLeft_setWidth_or]

theorem toNat_append_add {m n : Nat} (x : BitVec m) (y : BitVec n) : (x ++ y).toNat = x.toNat * 2 ^ n + y.toNat := by
  rw [BitVec.toNat_append, ← Nat.shiftLeft_add_eq_or_of_lt y.isLt, Nat.shiftLeft_eq]

theorem acquiredFrame_of_ok {a : TransportAnswer} (h : a.ok = true) :
    acquiredFrame a = a.rx0 ++ a.rx1 ++ a.rx2 ++ a.rx3 := by
  rw [acquiredFrame, if_pos h, assembleFrame_eq_append]

/-- Settles O23: shifting and ORing the bytes concatenates them, and concatenation weights the upper part. -/
theorem frameBytesAreBigEndian : Obligations.FrameBytesAreBigEndian := by
  intro a h
  refine ⟨acquiredFrame_of_ok h, ?_⟩
  rw [acquiredFrame_of_ok h]
  simp only [toNat_append_add]
  omega

/-- The statements' frame of the next acquisition is the model's. -/
theorem drawnFrame_eq (s : State) : drawnFrame s = acquiredFrame s.nextAnswer := by
  unfold drawnFrame acquiredFrame
  rw [assembleFrame_eq_append]

theorem noData_iff (s : State) :
    noData s.params.zeroIsNodata s.nextAnswer.ok (acquiredFrame s.nextAnswer) = true ↔ NoData s := by
  simp [noData, NoData, drawnFrame_eq]

/-- The response of a read in the statements' terms (R92). -/
theorem readResponse_eq (word : Frame → BitVec 3 → ResponseWord) (s : State) :
    readResponse word s = if NoData s then noDataWord else word (drawnFrame s) s.mask := by
  simp only [readResponse, noData_iff, drawnFrame_eq]
  rfl

/-! ### A mask governs the next read (R41, R90, R94) -/

theorem tcWord_celsius (f : Frame) (mask : BitVec 3) : tcWord (celsius f mask) = celsiusWord f mask := by
  cases h : faulted f mask with
  | true =>
    have hne : f.extractLsb' 0 3 &&& mask ≠ 0#3 := by simpa [faulted, maskedFaults, frameFaults] using h
    rw [celsius_of_faulted h, celsiusWord, if_pos hne]
    rfl
  | false =>
    have heq : f.extractLsb' 0 3 &&& mask = 0#3 := by simpa [faulted, maskedFaults, frameFaults] using h
    rw [celsius_of_not_faulted h, celsiusWord, if_neg (not_not.mpr heq), decodeTc_eq_toInt]
    rfl

/-- A command comes back from its word (R56, R57). -/
theorem decode_encode (i : Instr) : decode (encode i) = some i := by
  cases i with
  | setMask m =>
    revert m
    decide
  | begin | readInternal | readCelsius | readFahrenheit | readFault | getConfig => rfl

/-- The step of a presented command is that command's `exec`, with the word off the port (R82). -/
theorem step_of_encode {s : State} {i : Instr} {rest : List CommandWord} (h : s.commands = encode i :: rest) :
    step s = exec i { s with commands := rest } := by
  simp [step, State.presented, State.takeCommand, h, decode_encode]

/-- READ_CELSIUS in the statements' terms (R94). -/
theorem exec_readCelsius_celsiusWord (s : State) :
    exec .readCelsius s = .next (afterRead s (if NoData s then noDataWord else celsiusWord (drawnFrame s) s.mask)) := by
  rw [exec_readCelsius_eq, readResponse_eq, tcWord_celsius]

/-- Settles O47: SET_MASK changes nothing a read's draw depends on, so READ_CELSIUS reads the same frame, under the new
mask. -/
theorem newMaskAppliesToTheNextCommand : Obligations.NewMaskAppliesToTheNextCommand := by
  intro s m rest hcommands
  refine ⟨_, _, (step_of_encode hcommands).trans (exec_setMask_eq m _),
    (step_of_encode rfl).trans (exec_readCelsius_celsiusWord _), rfl, rfl, ?_⟩
  exact List.append_assoc s.responses [_] [_]

end Sys2Proof.Proofs
end

section
/-! SUPPORT. The decoder and the encoder as inverse maps between the legal words and the commands, the fields of a
response word, and the reply of each read command with what it can say and what it depends on. Then the statements of
30_encoding.md: the frame's unused bits (R48), the fault classes (R51), the command word (R55 to R61, R66), and the
response word (R62 to R65). -/

namespace Sys2Proof.Proofs

open Sys2Proof.Machine Sys2Proof.Safety Sys2Proof.Claims

/-! ### Legal words and commands (R55 to R58)

An illegal word decodes to nothing, a command comes back from its word (`decode_encode`), and a legal word is the word
of a command. What decoding gives follows from these three. -/

theorem illegalReason_eq_none_iff (w : CommandWord) : illegalReason w = none ↔ ¬ IllegalWord w := by
  unfold illegalReason opField rsvField operandField
  split_ifs with hop hrsv hoperand
  · simp [IllegalWord, hop]
  · simp [IllegalWord, hrsv]
  · simp [IllegalWord, hoperand]
  · simp_all [IllegalWord]

theorem decode_of_illegal {w : CommandWord} (h : IllegalWord w) : decode w = none := by
  cases hr : illegalReason w with
  | none => exact absurd h ((illegalReason_eq_none_iff w).mp hr)
  | some r => simp [decode, decodeCommand, hr]

/-- A word is its three fields, the most significant first (R55). -/
theorem fields_append (w : CommandWord) : w.extractLsb' 8 8 ++ (w.extractLsb' 4 4 ++ w.extractLsb' 0 4) = w := by
  rw [BitVec.extractLsb'_append_extractLsb'_eq_extractLsb' (by rfl),
    BitVec.extractLsb'_append_extractLsb'_eq_extractLsb' (by rfl)]
  exact BitVec.extractLsb'_eq_self

theorem encode_setMask_eq_append (m : BitVec 8) : encode (.setMask m) = m ++ 0x02#8 := by
  rw [← BitVec.setWidth_eq (m ++ 0x02#8), BitVec.setWidth_append_eq_shiftLeft_setWidth_or]
  rfl

/-- The seven opcodes left by R58's first condition (R56). -/
theorem legal_opcode_cases (op : BitVec 4) (h : ¬ (op = 0x0#4 ∨ 0x8#4 ≤ op)) :
    op = 1#4 ∨ op = 2#4 ∨ op = 3#4 ∨ op = 4#4 ∨ op = 5#4 ∨ op = 6#4 ∨ op = 7#4 := by
  revert op
  decide

theorem exists_encode_of_legal {w : CommandWord} (h : ¬ IllegalWord w) : ∃ i, encode i = w := by
  obtain ⟨hop, hfields⟩ := not_or.mp h
  obtain ⟨hrsv, hoperand⟩ := not_or.mp hfields
  rw [not_not] at hrsv
  have hzero (hne : w.extractLsb' 0 4 ≠ 0x2#4) : w.extractLsb' 8 8 = 0#8 := by
    by_contra hstray
    exact hoperand ⟨hne, hstray⟩
  rw [← fields_append w, hrsv]
  obtain hop | hop | hop | hop | hop | hop | hop := legal_opcode_cases _ hop <;> rw [hop] at hzero ⊢
  case inr.inl => exact ⟨.setMask (w.extractLsb' 8 8), encode_setMask_eq_append _⟩
  all_goals rw [hzero (by decide)]
  · exact ⟨.begin, rfl⟩
  · exact ⟨.readInternal, rfl⟩
  · exact ⟨.readCelsius, rfl⟩
  · exact ⟨.readFahrenheit, rfl⟩
  · exact ⟨.readFault, rfl⟩
  · exact ⟨.getConfig, rfl⟩

theorem decode_eq_none_iff (w : CommandWord) : decode w = none ↔ IllegalWord w := by
  refine ⟨fun hnone => ?_, decode_of_illegal⟩
  by_contra hlegal
  obtain ⟨i, rfl⟩ := exists_encode_of_legal hlegal
  simp [decode_encode] at hnone

/-- Settles O2: a word that decodes is legal, so it is the word of a command, and that command comes back from it. -/
theorem decodeAndEncodeAgreeBothWays : Obligations.DecodeAndEncodeAgreeBothWays := by
  intro w i
  refine ⟨fun hd => ?_, fun he => he ▸ decode_encode i⟩
  have hlegal : ¬ IllegalWord w := by simp [← decode_eq_none_iff, hd]
  obtain ⟨j, rfl⟩ := exists_encode_of_legal hlegal
  rw [decode_encode, Option.some.injEq] at hd
  rw [hd]

theorem encode_injective : Function.Injective encode := fun i j h => by
  simpa [decode_encode] using congrArg decode h

/-- Settles O1: seven commands come back from their words, and the sample words meet R58. -/
theorem commandWordsDecodeAsTheOpcodeMapSays : Obligations.CommandWordsDecodeAsTheOpcodeMapSays :=
  ⟨decode_encode .begin, decode_encode (.setMask 0x07#8), decode_encode (.setMask 0xFF#8),
    decode_encode .readInternal, decode_encode .readCelsius, decode_encode .readFahrenheit, decode_encode .readFault,
    decode_encode .getConfig, decode_of_illegal (by decide), decode_of_illegal (by decide),
    decode_of_illegal (by decide), decode_of_illegal (by decide), decode_of_illegal (by decide),
    decode_of_illegal (by decide)⟩

/-! ### The opcode table (R66) -/

/-- A mask that is all ones over a field keeps the field. -/
theorem extractLsb'_and_of_allOnes {v start len : Nat} (x : BitVec v) {mask : BitVec v}
    (h : mask.extractLsb' start len = BitVec.allOnes len) :
    (x &&& mask).extractLsb' start len = x.extractLsb' start len := by
  rw [BitVec.extractLsb'_and, h, BitVec.and_allOnes]

theorem extractLsb'_eq_of_and_eq {v start len : Nat} {x y mask : BitVec v}
    (hmask : mask.extractLsb' start len = BitVec.allOnes len) (h : x &&& mask = y &&& mask) :
    x.extractLsb' start len = y.extractLsb' start len := by
  rw [← extractLsb'_and_of_allOnes x hmask, h, extractLsb'_and_of_allOnes y hmask]

/-- A row with the full mask selects its match alone. -/
theorem decode_eq_some_iff_full_mask (w : CommandWord) (i : Instr) :
    decode w = some i ↔ w &&& 0xFFFF#16 = encode i := by
  rw [show w &&& 0xFFFF#16 = w from BitVec.and_allOnes, decodeAndEncodeAgreeBothWays w i, eq_comm]

/-- SET_MASK's row looks at the low byte only, and the operand is the high byte. -/
theorem decode_eq_some_setMask_iff (w : CommandWord) (m : BitVec 8) :
    decode w = some (.setMask m) ↔ w &&& 0x00FF#16 = 0x0002#16 ∧ m = w.extractLsb' 8 8 := by
  rw [decodeAndEncodeAgreeBothWays w, encode_setMask_eq_append]
  constructor
  · rintro rfl
    refine ⟨?_, BitVec.extractLsb'_append_eq_left.symm⟩
    revert m
    decide
  · rintro ⟨hrow, rfl⟩
    have hlow : w.extractLsb' 0 8 = 0x02#8 := by
      rw [← extractLsb'_and_of_allOnes w (mask := 0x00FF#16) (by decide), hrow]
      decide
    rw [← hlow, BitVec.extractLsb'_append_extractLsb'_eq_extractLsb' (by rfl)]
    exact BitVec.extractLsb'_eq_self

theorem exists_decode_of_selects {r : OpcodeRow} {w : CommandWord} (hr : r ∈ opcodeTable) (h : r.selects w = true) :
    ∃ i, decode w = some i ∧ i.mnemonic = r.mnemonic := by
  have hword : w &&& r.mask = r.pattern := beq_iff_eq.mp h
  simp only [opcodeTable, List.mem_cons, List.not_mem_nil, or_false] at hr
  obtain rfl | rfl | rfl | rfl | rfl | rfl | rfl := hr
  · exact ⟨.begin, (decode_eq_some_iff_full_mask w _).mpr hword, rfl⟩
  · exact ⟨.setMask _, (decode_eq_some_setMask_iff w _).mpr ⟨hword, rfl⟩, rfl⟩
  · exact ⟨.readInternal, (decode_eq_some_iff_full_mask w _).mpr hword, rfl⟩
  · exact ⟨.readCelsius, (decode_eq_some_iff_full_mask w _).mpr hword, rfl⟩
  · exact ⟨.readFahrenheit, (decode_eq_some_iff_full_mask w _).mpr hword, rfl⟩
  · exact ⟨.readFault, (decode_eq_some_iff_full_mask w _).mpr hword, rfl⟩
  · exact ⟨.getConfig, (decode_eq_some_iff_full_mask w _).mpr hword, rfl⟩

theorem tableRow_statement (i : Instr) : Laws.TableRow.Statement i := by
  cases i with
  | begin => exact Laws.TableRow.begin
  | setMask m => exact Laws.TableRow.setMask m
  | readInternal => exact Laws.TableRow.readInternal
  | readCelsius => exact Laws.TableRow.readCelsius
  | readFahrenheit => exact Laws.TableRow.readFahrenheit
  | readFault => exact Laws.TableRow.readFault
  | getConfig => exact Laws.TableRow.getConfig

theorem eq_of_mnemonic_eq : ∀ r ∈ opcodeTable, ∀ r' ∈ opcodeTable, r.mnemonic = r'.mnemonic → r = r' := by
  decide

/-- A row selects exactly the words that decode to its command. -/
theorem selects_iff_mnemonic {r : OpcodeRow} (hr : r ∈ opcodeTable) (w : CommandWord) :
    r.selects w = true ↔ (decode w).map Instr.mnemonic = some r.mnemonic := by
  rw [Option.map_eq_some_iff]
  refine ⟨exists_decode_of_selects hr, fun ⟨i, hd, hm⟩ => ?_⟩
  obtain ⟨r', hr', hm', hselects⟩ := tableRow_statement i
  rw [eq_of_mnemonic_eq r hr r' hr' (hm.symm.trans hm'.symm), ← (decodeAndEncodeAgreeBothWays w i).mp hd]
  exact hselects

/-- Settles O3: each row's test is the decoder's, and a decoded command has one row. -/
theorem decoderIsTheOpcodeTable : Obligations.DecoderIsTheOpcodeTable := by
  intro w
  refine ⟨decode_eq_none_iff w, decode_eq_some_iff_full_mask w _, decode_eq_some_setMask_iff w,
    decode_eq_some_iff_full_mask w _, decode_eq_some_iff_full_mask w _, decode_eq_some_iff_full_mask w _,
    decode_eq_some_iff_full_mask w _, decode_eq_some_iff_full_mask w _, ?_⟩
  have hrows : (opcodeTable.filter fun r => r.selects w) =
      opcodeTable.filter fun r => (decode w).map Instr.mnemonic = some r.mnemonic :=
    List.filter_congr fun r hr => by simp [← selects_iff_mnemonic hr w]
  rw [hrows]
  cases decode w with
  | none => simp [opcodeTable]
  | some i => cases i <;> simp [opcodeTable, Instr.mnemonic]

/-! ### The legal words, counted (R58) -/

/-- Every command, with every operand. -/
def allCommands : List Instr :=
  (List.finRange 256).map (fun k => .setMask (BitVec.ofFin k)) ++
    [.begin, .readInternal, .readCelsius, .readFahrenheit, .readFault, .getConfig]

theorem mem_allCommands (i : Instr) : i ∈ allCommands := by
  cases i with
  | setMask m => exact List.mem_append_left _ (List.mem_map.mpr ⟨m.toFin, List.mem_finRange _, rfl⟩)
  | begin | readInternal | readCelsius | readFahrenheit | readFault | getConfig => simp [allCommands]

theorem nodup_allCommands : allCommands.Nodup := by
  have hsetMask : Function.Injective fun k : Fin 256 => Instr.setMask (BitVec.ofFin k) := fun k l h => by
    simpa using h
  refine List.Nodup.append ((List.nodup_finRange 256).map hsetMask) (by decide) ?_
  simp [List.Disjoint]

/-- Settles O4: the legal words are the words of all commands, and `encode` repeats none. -/
theorem legalWordsNumber262 : Obligations.LegalWordsNumber262 := by
  refine ⟨⟨allCommands.map encode, nodup_allCommands.map encode_injective, fun w => ?_, ?_, ?_⟩, fun i _ =>
    ⟨encode i, fun v => (decodeAndEncodeAgreeBothWays v i).trans eq_comm⟩⟩
  · simp [Option.isSome_iff_exists, decodeAndEncodeAgreeBothWays w _, mem_allCommands]
  · simp [allCommands]
  · simp [List.countP_map, Function.comp_def, decode_encode, allCommands, isSetMask]

/-- Settles O5: an illegal word decodes to nothing, and the step then only answers ILLEGAL. -/
theorem illegalWordsOnlyGetTheIllegalResponse : Obligations.IllegalWordsOnlyGetTheIllegalResponse := by
  refine ⟨decode_eq_none_iff, fun s w rest hw hillegal => ?_⟩
  simp only [step, State.presented, hw, List.head?_cons, decode_of_illegal hillegal, illegalCommand, State.takeCommand,
    List.tail_cons]
  rfl

/-! ### The assembler (R60, R61) -/

theorem eq_encode_of_assemble {c : AsmCommand} {w : CommandWord} (h : assemble c = .word w) :
    w = encode (asmInstr c) := by
  unfold assemble at h
  split at h
  · exact (AsmLine.word.inj h).symm
  · cases h

theorem exists_encode_of_assembleTokens {tokens : List (List Char)} {w : CommandWord}
    (h : assembleTokens tokens = .word w) : ∃ i, w = encode i := by
  unfold assembleTokens at h
  split at h
  case h_2 | h_3 =>
    split at h
    · exact ⟨_, eq_encode_of_assemble h⟩
    · cases h
  all_goals cases h

/-- Settles O56: a line's word is some command's word, so it decodes. -/
theorem assembledWordsAreLegal : Obligations.AssembledWordsAreLegal := by
  intro line w h
  obtain ⟨i, rfl⟩ := exists_encode_of_assembleTokens h
  have hlegal : ¬ IllegalWord (encode i) := by simp [← decode_eq_none_iff, decode_encode]
  exact ⟨hlegal, i, decode_encode i, rfl⟩

theorem assemble_setMask (n : Nat) :
    assemble ⟨.setMask, some n⟩ = if n ≤ 255 then .word (BitVec.ofNat 8 n ++ 0x02#8) else .error := by
  simp only [assemble, AsmCommand.wellFormed, operandInRange, decide_eq_true_eq, asmInstr, encode_setMask_eq_append,
    Option.getD_some]

theorem assemble_stray_operand {m : Mnemonic} (n : Nat) (h : m ≠ .setMask) : assemble ⟨m, some n⟩ = .error := by
  cases m with
  | setMask => exact absurd rfl h
  | begin | readInternal | readCelsius | readFahrenheit | readFault | getConfig => rfl

/-- A line that is a mnemonic alone is that mnemonic without an operand. -/
theorem assembleLine_mnemonicName (m : Mnemonic) : assembleLine (mnemonicName m) = assemble ⟨m, none⟩ := by
  cases m <;> decide

/-- Settles O57: SET_MASK by the range of its operand, the other mnemonics one by one. -/
theorem assemblerTakesAnOperandOnlyForSetMask : Obligations.AssemblerTakesAnOperandOnlyForSetMask :=
  ⟨assemble_setMask, rfl, fun _ n h => assemble_stray_operand n h, rfl, rfl, rfl, rfl, rfl, rfl,
    assembleLine_mnemonicName .begin, assembleLine_mnemonicName .readInternal, assembleLine_mnemonicName .readCelsius,
    assembleLine_mnemonicName .readFahrenheit, assembleLine_mnemonicName .readFault,
    assembleLine_mnemonicName .getConfig⟩

/-- Settles O58: two operands and two lines, evaluated. -/
theorem namedOperandsOfSetMask : Obligations.NamedOperandsOfSetMask :=
  ⟨by decide, by decide, by decide, by decide⟩

/-! ### The fields of a response word (R62) -/

section ResponseFields

variable (st : Status) (fb k : BitVec 3) (v : Int)

@[simp] theorem respStatus_responseWord : respStatus (responseWord st fb k v) = statusCode st :=
  BitVec.extractLsb'_append_eq_right

@[simp] theorem respFbits_responseWord : respFbits (responseWord st fb k v) = fb :=
  (BitVec.extractLsb'_append_eq_of_le (w := 2) (by decide)).trans BitVec.extractLsb'_append_eq_right

@[simp] theorem respKind_responseWord : respKind (responseWord st fb k v) = k :=
  (BitVec.extractLsb'_append_eq_of_le (w := 2) (by decide)).trans <|
    (BitVec.extractLsb'_append_eq_of_le (w := 3) (by decide)).trans BitVec.extractLsb'_append_eq_right

@[simp] theorem respReserved_responseWord : respReserved (responseWord st fb k v) = 0#24 :=
  (BitVec.extractLsb'_append_eq_of_le (w := 2) (by decide)).trans <|
    (BitVec.extractLsb'_append_eq_of_le (w := 3) (by decide)).trans <|
      (BitVec.extractLsb'_append_eq_of_le (w := 3) (by decide)).trans BitVec.extractLsb'_append_eq_right

theorem valueField_responseWord : (responseWord st fb k v).extractLsb' 32 32 = int32 v :=
  (BitVec.extractLsb'_append_eq_of_le (w := 2) (by decide)).trans <|
    (BitVec.extractLsb'_append_eq_of_le (w := 3) (by decide)).trans <|
      (BitVec.extractLsb'_append_eq_of_le (w := 3) (by decide)).trans BitVec.extractLsb'_append_eq_left

variable {v}

theorem respValue_responseWord (hlow : -2 ^ 31 ≤ v) (hhigh : v < 2 ^ 31) :
    respValue (responseWord st fb k v) = v := by
  rw [respValue, valueField_responseWord]
  exact BitVec.toInt_ofInt_eq_self (by decide) hlow hhigh

end ResponseFields

/-- Settles O35: each field is one part of the concatenation. -/
theorem responseFieldsReadBack : Obligations.ResponseFieldsReadBack := fun st fb k _ hlow hhigh =>
  ⟨respStatus_responseWord .., respFbits_responseWord .., respKind_responseWord .., respReserved_responseWord ..,
    respValue_responseWord st fb k hlow hhigh⟩

/-! ### The fault classes (R51, R54) -/

/-- Settles O31, by its eight codes. -/
theorem faultCodesHaveTheirClasses : Obligations.FaultCodesHaveTheirClasses :=
  ⟨by decide, rfl, rfl, rfl, rfl, rfl⟩

theorem kindCode_le (c : FaultKind) : kindCode c ≤ 4#3 := by
  cases c <;> decide

/-! ### What a response can say (R62 to R64) -/

/-- The range of the widest command, in which every response value lies (R64). -/
abbrev ValueInRange (v : Int) : Prop := -73088 ≤ v ∧ v ≤ 74359

theorem respValue_of_inRange (st : Status) (fb k : BitVec 3) {v : Int} (hv : ValueInRange v) :
    respValue (responseWord st fb k v) = v := by
  obtain ⟨hlow, hhigh⟩ := hv
  exact respValue_responseWord st fb k (by omega) (by omega)

theorem respValue_zero (st : Status) (fb k : BitVec 3) : respValue (responseWord st fb k 0) = 0 :=
  respValue_of_inRange st fb k (by decide)

theorem wellFormed_ok {k : BitVec 3} {v : Int} (hk : k ≤ 4#3) (hv : ValueInRange v) :
    ResponseWellFormed (responseWord .ok 0#3 k v) := by
  simp [ResponseWellFormed, respValue_of_inRange _ _ _ hv, statusCode, hk, hv]

theorem wellFormed_fault {fb : BitVec 3} (hfb : fb ≠ 0#3) : ResponseWellFormed (responseWord .fault fb 0#3 0) := by
  simp [ResponseWellFormed, respValue_zero, statusCode, hfb]

theorem wellFormed_noData : ResponseWellFormed (responseWord .noData 0#3 0#3 0) := by
  simp [ResponseWellFormed, respValue_zero, statusCode]

theorem wellFormed_illegal : ResponseWellFormed (responseWord .illegal 0#3 0#3 0) := by
  simp [ResponseWellFormed, respValue_zero, statusCode]

theorem configValue_inRange (s : State) : ValueInRange (configValue s) := by
  have hinit : s.init.toNat <<< 3 < 2 ^ 4 := by
    have hbit := s.init.isLt
    rw [Nat.shiftLeft_eq]
    omega
  have hmask : s.mask.toNat < 2 ^ 4 := s.mask.isLt.trans (by decide)
  have hvalue : configValue s < 2 ^ 4 := Nat.or_lt_two_pow hinit hmask
  omega

/-! ### The reply of a read command (R93 to R96) -/

/-- The response of each read command to a frame under a mask, and a plain OK for a command that reads none. -/
def readWord : Instr → Frame → BitVec 3 → ResponseWord
  | .readInternal, f, _ => responseWord .ok 0#3 0#3 (decodeInternal f)
  | .readCelsius, f, mask => tcWord (celsius f mask)
  | .readFahrenheit, f, mask => tcWord (fahrenheit f mask)
  | .readFault, f, _ => responseWord .ok 0#3 (kindCode (classify (faultCode f))) (faultCode f).toNat
  | .begin, _, _ | .setMask _, _, _ | .getConfig, _, _ => responseWord .ok 0#3 0#3 0

theorem exec_read_eq {i : Instr} (hread : isRead i = true) (s : State) :
    exec i s = .next (afterRead s (readResponse (readWord i) s)) := by
  match i, hread with
  | .readInternal, _ => exact exec_readInternal_eq s
  | .readCelsius, _ => exact exec_readCelsius_eq s
  | .readFahrenheit, _ => exact exec_readFahrenheit_eq s
  | .readFault, _ => exact exec_readFault_eq s

theorem fahrenheit_of_faulted {f : Frame} {mask : BitVec 3} (h : faulted f mask = true) :
    fahrenheit f mask = .fault (maskedFaults f mask) := by
  simp [fahrenheit, celsius_of_faulted h]

theorem maskedFaults_ne_zero {f : Frame} {mask : BitVec 3} (h : faulted f mask = true) :
    maskedFaults f mask ≠ 0#3 := by
  simpa [faulted] using h

theorem wellFormed_celsius (f : Frame) (mask : BitVec 3) : ResponseWellFormed (tcWord (celsius f mask)) := by
  cases h : faulted f mask with
  | true =>
    rw [celsius_of_faulted h]
    exact wellFormed_fault (maskedFaults_ne_zero h)
  | false =>
    rw [celsius_of_not_faulted h]
    have hrange := decodeTc_bounds f
    exact wellFormed_ok (by decide) (by omega)

theorem wellFormed_fahrenheit (f : Frame) (mask : BitVec 3) : ResponseWellFormed (tcWord (fahrenheit f mask)) := by
  cases h : faulted f mask with
  | true =>
    rw [fahrenheit_of_faulted h]
    exact wellFormed_fault (maskedFaults_ne_zero h)
  | false =>
    rw [fahrenheit_of_celsius_ok (celsius_of_not_faulted h)]
    exact wellFormed_ok (by decide) (fahrenheitRaw_bounds f)

theorem wellFormed_readWord (i : Instr) (f : Frame) (mask : BitVec 3) : ResponseWellFormed (readWord i f mask) := by
  cases i with
  | readInternal =>
    have hrange := decodeInternal_bounds f
    exact wellFormed_ok (by decide) (by omega)
  | readCelsius => exact wellFormed_celsius f mask
  | readFahrenheit => exact wellFormed_fahrenheit f mask
  | readFault =>
    have hcode := (faultCode f).isLt
    exact wellFormed_ok (kindCode_le _) (by omega)
  | begin | setMask | getConfig => exact wellFormed_ok (by decide) (by decide)

theorem wellFormed_readResponse (i : Instr) (s : State) : ResponseWellFormed (readResponse (readWord i) s) := by
  unfold readResponse
  split
  · exact wellFormed_noData
  · exact wellFormed_readWord i _ _

/-- Every command appends one well-formed response. -/
theorem exec_wellFormed_append {i : Instr} {s t : State} (h : exec i s = .next t) :
    ∃ r, t.responses = s.responses ++ [r] ∧ ResponseWellFormed r := by
  cases i with
  | readInternal | readCelsius | readFahrenheit | readFault =>
    rw [exec_read_eq rfl] at h
    cases h
    exact ⟨_, rfl, wellFormed_readResponse _ s⟩
  | begin =>
    rw [exec_begin_eq] at h
    cases h
    exact ⟨_, rfl, wellFormed_ok (by decide) (by decide)⟩
  | setMask m =>
    rw [exec_setMask_eq] at h
    cases h
    exact ⟨_, rfl, wellFormed_ok (by decide) (by decide)⟩
  | getConfig =>
    rw [exec_getConfig_eq] at h
    cases h
    exact ⟨_, rfl, wellFormed_ok (by decide) (configValue_inRange s)⟩

/-- A step leaves an idle block as it is, or appends one well-formed response. -/
theorem step_wellFormed_append {s t : State} (h : step s = .next t) :
    t = s ∨ ∃ r, t.responses = s.responses ++ [r] ∧ ResponseWellFormed r := by
  obtain ⟨-, rfl⟩ | ⟨_, i, -, -, hexec⟩ | ⟨_, -, -, rfl⟩ := step_cases h
  · exact .inl rfl
  · exact .inr (exec_wellFormed_append (s := s.takeCommand) hexec)
  · exact .inr ⟨_, rfl, wellFormed_illegal⟩

/-- Settles O49: a step appends at most one response, of a command or to an illegal word. -/
theorem responsesStayWellFormed : Obligations.ResponsesStayWellFormed := by
  intro s t hs hstep
  obtain rfl | ⟨r, hresponses, hr⟩ := step_wellFormed_append hstep
  · exact hs
  · intro w hw
    rw [hresponses, List.mem_append, List.mem_singleton] at hw
    obtain hw | rfl := hw
    · exact hs w hw
    · exact hr

theorem lastResponse_afterRead (s : State) (w : ResponseWord) : lastResponse (afterRead s w) = w := by
  simp [lastResponse, afterRead]

/-- Settles O41: a read's state is `afterRead`, and its response is well formed. -/
theorem failedReadsKeepMaskAndInitialise : Obligations.FailedReadsKeepMaskAndInitialise := by
  intro i s hread
  obtain ⟨-, hfailed, -⟩ := wellFormed_readResponse i s
  refine ⟨_, exec_read_eq hread s, rfl, rfl, fun hstatus => ?_⟩
  rw [lastStatus, lastResponse_afterRead] at hstatus
  rw [lastResponse_afterRead]
  exact (hfailed hstatus).symm

/-! ### The bits of a frame that no response depends on (R45, R48) -/

/-- Two frames agree in the three fields that are read: internal, thermocouple and fault. -/
structure SameFields (f g : Frame) : Prop where
  internal : f.extractLsb' 4 12 = g.extractLsb' 4 12
  tc : f.extractLsb' 18 14 = g.extractLsb' 18 14
  faults : f.extractLsb' 0 3 = g.extractLsb' 0 3

/-- Bits 17, 16 and 3 lie outside the three fields. -/
theorem sameFields_of_used_bits {f g : Frame} (h : f &&& 0xFFFCFFF7#32 = g &&& 0xFFFCFFF7#32) : SameFields f g :=
  ⟨extractLsb'_eq_of_and_eq (by decide) h, extractLsb'_eq_of_and_eq (by decide) h,
    extractLsb'_eq_of_and_eq (by decide) h⟩

theorem SameFields.celsius_eq {f g : Frame} (h : SameFields f g) (mask : BitVec 3) :
    celsius f mask = celsius g mask := by
  simp only [celsius, faulted, maskedFaults, frameFaults, h.faults, decodeTc_eq_toInt, h.tc]

theorem SameFields.readWord_eq {f g : Frame} (h : SameFields f g) (i : Instr) (mask : BitVec 3) :
    readWord i f mask = readWord i g mask := by
  cases i with
  | readInternal => simp only [readWord, decodeInternal_eq_toInt, h.internal]
  | readCelsius => simp only [readWord, h.celsius_eq]
  | readFahrenheit => simp only [readWord, fahrenheit, h.celsius_eq]
  | readFault => simp only [readWord, faultCode, frameFaults, h.faults]
  | begin | setMask | getConfig => rfl

/-- A successful transfer of a frame that is not zero is answered by the reply to it. -/
theorem readResponse_of_frame (word : Frame → BitVec 3 → ResponseWord) {s : State} (hok : s.nextAnswer.ok = true)
    (hne : acquiredFrame s.nextAnswer ≠ 0#32) : readResponse word s = word (acquiredFrame s.nextAnswer) s.mask := by
  simp [readResponse, noData, hok, hne]

/-- Settles O44: each read's reply depends on its frame through the three fields only. -/
theorem unusedFrameBitsChangeNoResponse : Obligations.UnusedFrameBitsChangeNoResponse := by
  intro i s a b rest ha hb hread hane hbne hagree
  have hword : readResponse (readWord i) { s with answers := a :: rest } =
      readResponse (readWord i) { s with answers := b :: rest } := by
    rw [readResponse_of_frame _ (s := { s with answers := a :: rest }) ha hane,
      readResponse_of_frame _ (s := { s with answers := b :: rest }) hb hbne]
    exact (sameFields_of_used_bits hagree).readWord_eq i s.mask
  rw [exec_read_eq hread, exec_read_eq hread, hword]
  rfl

end Sys2Proof.Proofs
end

section
/-! SUPPORT. The fault check as tests on the frame (R70), when each thermocouple result is a fault, the decoded values
in 32-bit arithmetic, and the status of a thermocouple reply. Then the statements of 40_decode.md: the closed forms
(R68, R72), the fault check (R70), the results (R73, R75), independence (R78) and width (R80); and what R95 and R100
derive from them. -/

namespace Sys2Proof.Proofs

open Sys2Proof.Machine Sys2Proof.Claims

/-! ### The closed forms (R68, R72) -/

/-- Settles O24: the closed form, and the range of a 12-bit field. -/
theorem internalIsSignExtendedField : Obligations.InternalIsSignExtendedField := fun f =>
  ⟨decodeInternal_eq_toInt f, decodeInternal_bounds f⟩

/-- Settles O25: the closed form, and the range of a 14-bit field. -/
theorem thermocoupleIsSignExtendedField : Obligations.ThermocoupleIsSignExtendedField := fun f =>
  ⟨decodeTc_eq_toInt f, decodeTc_bounds f⟩

/-! ### The fault check (R70) -/

theorem faulted_iff (f : Frame) (mask : BitVec 3) : faulted f mask = true ↔ f.extractLsb' 0 3 &&& mask ≠ 0#3 :=
  bne_iff_ne

/-- The frame ANDed with the mask is the masked fault field: the mask has no bit above the field. -/
theorem and_setWidth_eq_maskedFaults (f : Frame) (mask : BitVec 3) :
    f &&& mask.setWidth 32 = (maskedFaults f mask).setWidth 32 := by
  ext i hi
  by_cases hfield : i < 3
  · simp [maskedFaults, frameFaults, hfield, hi]
  · simp [BitVec.getLsbD_of_ge _ i (Nat.le_of_not_lt hfield)]

theorem setWidth_ne_zero_iff (x : BitVec 3) : x.setWidth 32 ≠ 0#32 ↔ x ≠ 0#3 := by
  revert x
  decide

/-- Bits 3, 16 and 17 lie outside the fault field. -/
theorem maskedFaults_xor_unused (f : Frame) (mask : BitVec 3) :
    maskedFaults (f ^^^ 0x00030008#32) mask = maskedFaults f mask := by
  have hunused : (0x00030008#32).extractLsb' 0 3 = 0#3 := by decide
  rw [maskedFaults, frameFaults, BitVec.extractLsb'_xor, hunused, BitVec.xor_zero]
  rfl

/-- Settles O26: the test on the raw frame is the test on the field, which a full mask leaves as it is. -/
theorem faultCheckMasksTheRawFrame : Obligations.FaultCheckMasksTheRawFrame := by
  intro f mask
  refine ⟨rfl, faulted_iff f mask, ?_, ?_, ?_, maskedFaults_xor_unused f mask⟩
  · rw [and_setWidth_eq_maskedFaults, setWidth_ne_zero_iff]
    exact faulted_iff f mask
  · rw [← Bool.not_eq_true, faulted_iff, BitVec.and_zero, not_not]
  · rw [faulted_iff, show f.extractLsb' 0 3 &&& 0b111#3 = f.extractLsb' 0 3 from BitVec.and_allOnes]

/-! ### The thermocouple results (R73, R75) -/

/-- Settles O27: the two branches of `celsius`. -/
theorem celsiusTestsFaultsFirst : Obligations.CelsiusTestsFaultsFirst := by
  intro f mask
  split
  next hfault => exact celsius_of_faulted ((faulted_iff f mask).mpr hfault)
  next hclear =>
    have hnot : faulted f mask = false := Bool.eq_false_iff.mpr (mt (faulted_iff f mask).mp hclear)
    rw [celsius_of_not_faulted hnot, decodeTc_eq_toInt]

/-- A fault is given only for a frame with an enforced fault, and it is the masked bits. -/
theorem celsius_eq_fault_iff {f : Frame} {mask fb : BitVec 3} :
    celsius f mask = .fault fb ↔ faulted f mask = true ∧ maskedFaults f mask = fb := by
  cases h : faulted f mask with
  | true => simp [celsius_of_faulted h]
  | false => simp [celsius_of_not_faulted h]

theorem fahrenheit_eq_fault_iff {f : Frame} {mask fb : BitVec 3} :
    fahrenheit f mask = .fault fb ↔ celsius f mask = .fault fb := by
  cases h : celsius f mask <;> simp [fahrenheit, h]

/-- Settles O28: `fahrenheit` by the two cases of `celsius`. -/
theorem fahrenheitPropagatesOrConverts : Obligations.FahrenheitPropagatesOrConverts := fun _ _ =>
  ⟨fun _ => fahrenheit_eq_fault_iff.symm, fun _ h => fahrenheit_of_celsius_ok h⟩

/-! ### Independence (R78) -/

/-- Settles O32: each closed form names one field. -/
theorem decodePathsAreIndependent : Obligations.DecodePathsAreIndependent := by
  intro f g
  refine ⟨fun hinternal => ?_, fun htc => ?_, fun hfaults => ⟨hfaults, fun mask => ?_⟩⟩
  · rw [decodeInternal_eq_toInt, decodeInternal_eq_toInt, hinternal]
  · rw [decodeTc_eq_toInt, decodeTc_eq_toInt, htc]
  · exact congrArg (· &&& mask) hfaults

/-! ### Width (R80) -/

theorem int32_decodeInternal (f : Frame) : int32 (decodeInternal f) = (f.extractLsb' 4 12).signExtend 32 := by
  rw [decodeInternal_eq_toInt]
  rfl

theorem int32_decodeTc (f : Frame) : int32 (decodeTc f) = (f.extractLsb' 18 14).signExtend 32 := by
  rw [decodeTc_eq_toInt]
  rfl

/-- The conversion in 32-bit arithmetic is the encoding of the exact one, whether or not it wraps. -/
theorem mul_add_int32 (tc : Int) : 9#32 * int32 tc + 640#32 = int32 (fahrenheitRaw tc) := by
  rw [fahrenheitRaw, int32, int32, BitVec.ofInt_add, BitVec.ofInt_mul]
  rfl

/-- Settles O34: the ranges, the fields' own encodings, and a conversion that stays within 32 bits. -/
theorem noDecodeFunctionOverflows : Obligations.NoDecodeFunctionOverflows := by
  intro f
  obtain ⟨hintLow, hintHigh⟩ := decodeInternal_bounds f
  obtain ⟨htcLow, htcHigh⟩ := decodeTc_bounds f
  obtain ⟨hfLow, hfHigh⟩ := fahrenheitRaw_bounds f
  refine ⟨hintLow, by omega, htcLow, by omega, by omega, hfHigh, int32_decodeInternal f, int32_decodeTc f, ?_⟩
  rw [mul_add_int32]
  exact BitVec.toInt_ofInt_eq_self (by decide) (by omega) (by omega)

/-! ### The subclass of a fault (R77, R100) -/

theorem classify_eq_none_iff (code : BitVec 3) : classify code = .none ↔ code = 0#3 := by
  revert code
  decide

/-- One bit alone is its own fault. -/
theorem classify_eq_single_iff (code : BitVec 3) :
    (classify code = .openCircuit ↔ code = 0b001#3) ∧ (classify code = .shortGnd ↔ code = 0b010#3) ∧
      (classify code = .shortVcc ↔ code = 0b100#3) := by
  revert code
  decide

theorem classify_eq_unknown_iff (code : BitVec 3) :
    classify code = .unknown ↔ 2 ≤ code[0].toNat + code[1].toNat + code[2].toNat := by
  revert code
  decide

/-- Settles O38: the bits of a fault are not all 0, and `classify` tells the other codes apart. -/
theorem maskedBitsNameTheSubclass : Obligations.MaskedBitsNameTheSubclass := by
  intro f mask fb hfault
  obtain ⟨hfaulted, rfl⟩ := celsius_eq_fault_iff.mp hfault
  obtain ⟨hopen, hgnd, hvcc⟩ := classify_eq_single_iff (maskedFaults f mask)
  exact ⟨mt (classify_eq_none_iff _).mp (maskedFaults_ne_zero hfaulted), hopen, hgnd, hvcc,
    classify_eq_unknown_iff _⟩

/-! ### The status of a thermocouple reply (R95) -/

/-- The conversion changes the value of a reply only. -/
theorem tcWord_fahrenheit_status_fbits (f : Frame) (mask : BitVec 3) :
    respStatus (tcWord (fahrenheit f mask)) = respStatus (tcWord (celsius f mask)) ∧
      respFbits (tcWord (fahrenheit f mask)) = respFbits (tcWord (celsius f mask)) := by
  cases h : celsius f mask with
  | fault fb => simp [fahrenheit_eq_fault_iff.mpr h]
  | ok tc => simp [fahrenheit_of_celsius_ok h, tcWord]

/-- Settles O40: both commands answer NODATA on the same test, and otherwise reply to the same frame. -/
theorem fahrenheitStatusIsCelsiusStatus : Obligations.FahrenheitStatusIsCelsiusStatus := by
  intro s
  refine ⟨_, _, exec_readFahrenheit_eq s, exec_readCelsius_eq s, ?_⟩
  simp only [lastStatus, lastResponse_afterRead, readResponse]
  split
  · exact ⟨rfl, rfl⟩
  · exact tcWord_fahrenheit_status_fbits _ _

end Sys2Proof.Proofs
end

section
/-! SUPPORT. The step of an illegal word, each command's response in the fields of R62, the reply to a zero frame, and
the status of each response. Then the statements of 41_commands.md: dispatch (R82), the configuration commands (R89 to
R91), the reads (R93 to R96) and the zero frame (R86); and what R105 derives from them. -/

namespace Sys2Proof.Proofs

open Sys2Proof.Machine Sys2Proof.Safety Sys2Proof.Claims

/-! ### Dispatch (R82) -/

/-- Settles O6: a word that decodes to a command is that command's word. -/
theorem stepRunsTheDecodedCommand : Obligations.StepRunsTheDecodedCommand := by
  refine ⟨fun s w rest i hw hd => ?_, fun s hidle => ?_⟩
  · rw [← (decodeAndEncodeAgreeBothWays w i).mp hd] at hw
    exact step_of_encode hw
  · simp [step, State.presented, hidle]

/-- An illegal word is taken off the port and answered ILLEGAL (R83). -/
theorem step_of_illegal {s : State} {w : CommandWord} {rest : List CommandWord} (hw : s.commands = w :: rest)
    (h : IllegalWord w) :
    step s = .next { s with commands := rest, responses := s.responses ++ [illegalWord] } :=
  illegalWordsOnlyGetTheIllegalResponse.2 s w rest hw h

theorem opcode_encode_setMask (m : BitVec 8) : (encode (.setMask m)).extractLsb' 0 4 = 0x2#4 := by
  revert m
  decide

theorem operand_encode_setMask (m : BitVec 8) : (encode (.setMask m)).extractLsb' 8 8 = m := by
  rw [encode_setMask_eq_append]
  exact BitVec.extractLsb'_append_eq_left

/-- Settles O7: a legal word is the word of a command, whose opcode selects that command. -/
theorem dispatchSelectsByOpcode : Obligations.DispatchSelectsByOpcode := by
  intro s w rest hw
  by_cases hillegal : IllegalWord w
  · rw [step_of_illegal hw hillegal, if_pos hillegal]
  · obtain ⟨i, rfl⟩ := exists_encode_of_legal hillegal
    rw [step_of_encode hw, if_neg hillegal]
    cases i with
    | setMask m =>
      rw [opcode_encode_setMask, operand_encode_setMask]
      rfl
    | begin | readInternal | readCelsius | readFahrenheit | readFault | getConfig => rfl

/-! ### The responses in the fields of R62 -/

theorem responseWord_eq_word (st : Status) (fb k : BitVec 3) (v : Int) :
    responseWord st fb k v = word (int32 v) k fb (statusCode st) := rfl

theorem int32_toNat {n : Nat} (x : BitVec n) : int32 x.toNat = x.setWidth 32 := by
  rw [int32, BitVec.ofInt_natCast, BitVec.ofNat_toNat]

/-- `INIT` above `MASK` is their concatenation, for each of the registers' 16 values. -/
theorem int32_configValue (s : State) : int32 (configValue s) = 0#28 ++ s.init ++ s.mask := by
  unfold configValue
  generalize s.init = init
  generalize s.mask = mask
  revert init mask
  decide

/-- The code of a class, taken straight from the fault code. -/
theorem kindCode_classify (code : BitVec 3) : kindCode (classify code) = kindOf code := by
  revert code
  decide

theorem readWord_readInternal (f : Frame) (mask : BitVec 3) :
    readWord .readInternal f mask = word ((f.extractLsb' 4 12).signExtend 32) 0#3 0#3 0#2 := by
  rw [readWord, responseWord_eq_word, int32_decodeInternal]
  rfl

theorem readWord_readFahrenheit (f : Frame) (mask : BitVec 3) :
    readWord .readFahrenheit f mask =
      if f.extractLsb' 0 3 &&& mask ≠ 0#3 then word 0#32 0#3 (f.extractLsb' 0 3 &&& mask) 1#2
      else word (9#32 * (f.extractLsb' 18 14).signExtend 32 + 640#32) 0#3 0#3 0#2 := by
  rw [readWord]
  split
  next hfault =>
    rw [fahrenheit_of_faulted ((faulted_iff f mask).mpr hfault)]
    rfl
  next hclear =>
    have hnot : faulted f mask = false := Bool.eq_false_iff.mpr (mt (faulted_iff f mask).mp hclear)
    rw [fahrenheit_of_celsius_ok (celsius_of_not_faulted hnot), ← int32_decodeTc, mul_add_int32]
    rfl

theorem readWord_readFault (f : Frame) (mask : BitVec 3) :
    readWord .readFault f mask =
      word ((f.extractLsb' 0 3).setWidth 32) (kindOf (f.extractLsb' 0 3)) 0#3 0#2 := by
  rw [readWord, responseWord_eq_word, int32_toNat, kindCode_classify]
  rfl

/-- A read command in the statements' terms (R92). -/
theorem exec_read_noData_or {i : Instr} (hread : isRead i = true) (s : State) :
    exec i s = .next (afterRead s (if NoData s then noDataWord else readWord i (drawnFrame s) s.mask)) := by
  rw [exec_read_eq hread, readResponse_eq]

/-! ### The configuration commands (R89 to R91) -/

/-- Settles O14: the trace of `BeginActions` is the list of R84. -/
theorem beginPerformsTheBeginActions : Obligations.BeginPerformsTheBeginActions :=
  ⟨rfl, exec_begin_eq⟩

/-- Settles O15: the word is a concatenation, the effect SET_MASK's closed form. -/
theorem setMaskWritesOperandLowBits : Obligations.SetMaskWritesOperandLowBits := fun m s =>
  ⟨encode_setMask_eq_append m, exec_setMask_eq m s⟩

/-- Settles O16: the value's encoding is `INIT` above `MASK`. -/
theorem getConfigReturnsInitAndMask : Obligations.GetConfigReturnsInitAndMask := by
  refine ⟨rfl, fun s => ?_⟩
  rw [exec_getConfig_eq, responseWord_eq_word, int32_configValue]
  rfl

/-! ### The read commands (R93 to R96) -/

/-- Settles O17: the reply in the fields of R62. -/
theorem readInternalReturnsTheInternalField : Obligations.ReadInternalReturnsTheInternalField := by
  refine ⟨rfl, fun s => ?_⟩
  rw [exec_read_noData_or rfl, readWord_readInternal]

/-- Settles O18: READ_CELSIUS's closed form. -/
theorem readCelsiusReturnsFaultOrThermocouple : Obligations.ReadCelsiusReturnsFaultOrThermocouple :=
  ⟨rfl, exec_readCelsius_celsiusWord⟩

/-- Settles O19: the reply in the fields of R62, converted in 32-bit arithmetic. -/
theorem readFahrenheitReturnsFaultOrConverted : Obligations.ReadFahrenheitReturnsFaultOrConverted := by
  refine ⟨rfl, fun s => ?_⟩
  rw [exec_read_noData_or rfl, readWord_readFahrenheit]

/-- Settles O20: the reply in the fields of R62. -/
theorem readFaultReturnsCodeAndKind : Obligations.ReadFaultReturnsCodeAndKind := by
  refine ⟨rfl, fun s => ?_⟩
  rw [exec_read_noData_or rfl, readWord_readFault]

/-! ### The zero frame (R86) -/

theorem celsius_zero (mask : BitVec 3) : celsius 0#32 mask = .ok 0 := by
  have hnot : faulted 0#32 mask = false := by
    revert mask
    decide
  exact celsius_of_not_faulted hnot

theorem noData_of_zero_frame {s : State} (hok : s.nextAnswer.ok = true) (hzero : drawnFrame s = 0#32) :
    NoData s ↔ s.params.zeroIsNodata = true := by
  simp [NoData, hok, hzero]

/-- Settles O42: the no-data test is then `ZERO_IS_NODATA`, and a decoded zero frame has no fault. -/
theorem zeroFramePolicy : Obligations.ZeroFramePolicy := by
  intro i s hread hok hzero
  rw [exec_read_noData_or hread]
  simp only [noData_of_zero_frame hok hzero, hzero]
  match i, hread with
  | .readInternal, _ => rfl
  | .readCelsius, _ =>
    rw [readWord, celsius_zero]
    rfl
  | .readFahrenheit, _ =>
    rw [readWord, fahrenheit_of_celsius_ok (celsius_zero s.mask)]
    rfl
  | .readFault, _ => rfl

/-! ### The statuses of a command (R105) -/

theorem respStatus_tcWord_celsius (f : Frame) (mask : BitVec 3) :
    respStatus (tcWord (celsius f mask)) = if faulted f mask then 1#2 else 0#2 := by
  cases h : faulted f mask with
  | true => simp [celsius_of_faulted h, tcWord, statusCode]
  | false => simp [celsius_of_not_faulted h, tcWord, statusCode]

/-- A thermocouple reply is FAULT exactly where a fault is enforced (R94, R95). -/
theorem respStatus_readWord_tc {i : Instr} (hi : i = .readCelsius ∨ i = .readFahrenheit) (f : Frame)
    (mask : BitVec 3) : respStatus (readWord i f mask) = if faulted f mask then 1#2 else 0#2 := by
  obtain rfl | rfl := hi
  · exact respStatus_tcWord_celsius f mask
  · exact (tcWord_fahrenheit_status_fbits f mask).1.trans (respStatus_tcWord_celsius f mask)

/-- The reply to a frame of a command that is no thermocouple read is OK (R93, R96). -/
theorem respStatus_readWord_of_not_tc {i : Instr} (hi : ¬ (i = .readCelsius ∨ i = .readFahrenheit)) (f : Frame)
    (mask : BitVec 3) : respStatus (readWord i f mask) = 0#2 := by
  cases i with
  | readCelsius | readFahrenheit => simp at hi
  | readInternal | readFault | begin | setMask | getConfig => exact respStatus_responseWord ..

theorem respStatus_readWord_of_not_faulted (i : Instr) {f : Frame} {mask : BitVec 3} (h : faulted f mask = false) :
    respStatus (readWord i f mask) = 0#2 := by
  by_cases hi : i = .readCelsius ∨ i = .readFahrenheit
  · simp [respStatus_readWord_tc hi, h]
  · exact respStatus_readWord_of_not_tc hi f mask

theorem respStatus_illegalWord : respStatus illegalWord = 3#2 :=
  respStatus_responseWord .illegal 0#3 0#3 0

theorem lastStatus_append_response {s t : State} {w : ResponseWord} (h : t.responses = s.responses ++ [w]) :
    lastStatus t = respStatus w := by
  simp [lastStatus, lastResponse, h]

theorem lastStatus_append_responseWord {s t : State} {st : Status} {fb k : BitVec 3} {v : Int}
    (h : t.responses = s.responses ++ [responseWord st fb k v]) : lastStatus t = statusCode st :=
  (lastStatus_append_response h).trans (respStatus_responseWord st fb k v)

/-- A read answers NODATA, or with its reply's status (R92). -/
theorem lastStatus_read (i : Instr) (s : State) :
    lastStatus (afterRead s (readResponse (readWord i) s)) =
      if NoData s then 2#2 else respStatus (readWord i (drawnFrame s) s.mask) := by
  rw [lastStatus_append_response rfl, readResponse_eq]
  split <;> rfl

/-- The commands that are no reads answer OK (R89 to R91). -/
theorem exec_not_read_ok {i : Instr} (hi : isRead i = false) (s : State) :
    ∃ t, exec i s = .next t ∧ lastStatus t = 0#2 := by
  match i, hi with
  | .begin, _ => exact ⟨_, exec_begin_eq s, lastStatus_append_responseWord (st := .ok) rfl⟩
  | .setMask m, _ => exact ⟨_, exec_setMask_eq m s, lastStatus_append_responseWord (st := .ok) rfl⟩
  | .getConfig, _ => exact ⟨_, exec_getConfig_eq s, lastStatus_append_responseWord (st := .ok) rfl⟩

/-- A block under the full mask that is about to receive `a`. -/
def awaiting (a : TransportAnswer) : State := { State.reset with answers := [a] }

theorem read_of_not_ready_noData {i : Instr} (hread : isRead i = true) :
    ∃ s t, exec i s = .next t ∧ lastStatus t = 2#2 := by
  refine ⟨awaiting ⟨false, 0#8, 0#8, 0#8, 0#8⟩, _, exec_read_eq hread _, ?_⟩
  rw [lastStatus_read, if_pos (by decide)]

/-- Frame `0x00000010`: a non-zero reading without a fault bit. -/
theorem read_of_unfaulted_frame_ok {i : Instr} (hread : isRead i = true) :
    ∃ s t, exec i s = .next t ∧ lastStatus t = 0#2 := by
  refine ⟨awaiting ⟨true, 0#8, 0#8, 0#8, 0x10#8⟩, _, exec_read_eq hread _, ?_⟩
  rw [lastStatus_read, if_neg (by decide)]
  exact respStatus_readWord_of_not_faulted i (by decide)

/-- Frame `0x00000001`: fault bit `OC`, enforced by the full mask. -/
theorem tc_read_of_faulted_frame_fault {i : Instr} (hi : i = .readCelsius ∨ i = .readFahrenheit) :
    ∃ s t, exec i s = .next t ∧ lastStatus t = 1#2 := by
  have hread : isRead i = true := by obtain rfl | rfl := hi <;> rfl
  refine ⟨awaiting ⟨true, 0#8, 0#8, 0#8, 0x01#8⟩, _, exec_read_eq hread _, ?_⟩
  rw [lastStatus_read, if_neg (by decide), respStatus_readWord_tc hi, if_pos (by decide)]

/-- Settles O39: a read is NODATA or has its reply's status, every other command is OK, and each status of a read has
its witness. -/
theorem statusesByCommand : Obligations.StatusesByCommand := by
  refine ⟨fun i s => ?_, fun i hread => ⟨read_of_unfaulted_frame_ok hread, read_of_not_ready_noData hread⟩,
    fun i hi => tc_read_of_faulted_frame_fault hi, fun s w rest hw hillegal => ?_⟩
  · cases hread : isRead i with
    | false =>
      obtain ⟨t, hexec, hok⟩ := exec_not_read_ok hread s
      exact ⟨t, hexec, fun _ => hok, fun _ => .inl hok, fun _ => .inl hok⟩
    | true =>
      refine ⟨_, exec_read_eq hread s, fun hnot => absurd hnot (by decide), fun hi => ?_, fun hi => ?_⟩ <;>
        rw [lastStatus_read]
      · have hnotTc : ¬ (i = .readCelsius ∨ i = .readFahrenheit) := by obtain rfl | rfl := hi <;> decide
        rw [respStatus_readWord_of_not_tc hnotTc]
        split <;> decide
      · rw [respStatus_readWord_tc hi]
        split_ifs <;> decide
  · exact ⟨_, step_of_illegal hw hillegal, (lastStatus_append_response rfl).trans respStatus_illegalWord⟩

end Sys2Proof.Proofs
end

section
/-! SUPPORT. Which replies of a read are NODATA and which are FAULT, what a step leaves of an instance's stream, and the
platform after a move. Then the statements of 60_exceptions.md: the no-data test (R99), the enforced fault bits (R100),
and the independence of instances (R110, R122). -/

namespace Sys2Proof.Proofs

open Sys2Proof.Machine Sys2Proof.Safety Sys2Proof.Claims

/-! ### NODATA (R99) -/

/-- A read's reply to a frame is OK or FAULT: NODATA comes from the no-data test alone. -/
theorem respStatus_readWord_ne_noData (i : Instr) (f : Frame) (mask : BitVec 3) :
    respStatus (readWord i f mask) ≠ 2#2 := by
  by_cases htc : i = .readCelsius ∨ i = .readFahrenheit
  · rw [respStatus_readWord_tc htc]
    split <;> decide
  · rw [respStatus_readWord_of_not_tc htc]
    decide

theorem lastStatus_read_eq_noData_iff (i : Instr) (s : State) :
    lastStatus (afterRead s (readResponse (readWord i) s)) = 2#2 ↔ NoData s := by
  rw [lastStatus_read]
  split
  next hnd => exact iff_of_true rfl hnd
  next hnd => exact iff_of_false (respStatus_readWord_ne_noData i _ _) hnd

/-- Settles O36: the status is NODATA exactly under the no-data test. -/
theorem noDataExactlyWhenTheTestHolds : Obligations.NoDataExactlyWhenTheTestHolds := by
  intro i s hread
  refine ⟨_, exec_read_eq hread s, (lastStatus_read_eq_noData_iff i s).trans ?_⟩
  exact or_congr_right and_comm

/-! ### FAULT (R100) -/

/-- Where the no-data test holds, the frame is 0: an answer that is not ready has its bytes unread (R37). -/
theorem drawnFrame_eq_zero_of_noData {s : State} (h : NoData s) : drawnFrame s = 0#32 := by
  obtain hnotReady | ⟨-, hzero⟩ := h
  · simp [drawnFrame, hnotReady]
  · exact hzero

/-- So an enforced fault bit is never hidden by NODATA. -/
theorem not_noData_of_faulted {s : State} (h : faulted (drawnFrame s) s.mask = true) : ¬ NoData s := by
  intro hnd
  rw [drawnFrame_eq_zero_of_noData hnd, faulted_iff] at h
  exact h BitVec.zero_and

theorem readWord_of_faulted {i : Instr} (hi : i = .readCelsius ∨ i = .readFahrenheit) {f : Frame} {mask : BitVec 3}
    (h : faulted f mask = true) : readWord i f mask = responseWord .fault (maskedFaults f mask) 0#3 0 := by
  obtain rfl | rfl := hi
  · rw [readWord, celsius_of_faulted h, tcWord]
  · rw [readWord, fahrenheit_of_faulted h, tcWord]

theorem readResponse_of_faulted {i : Instr} (hi : i = .readCelsius ∨ i = .readFahrenheit) {s : State}
    (h : faulted (drawnFrame s) s.mask = true) :
    readResponse (readWord i) s = responseWord .fault (maskedFaults (drawnFrame s) s.mask) 0#3 0 := by
  rw [readResponse_eq, if_neg (not_noData_of_faulted h), readWord_of_faulted hi h]

/-- Without an enforced fault bit a read is NODATA or OK. -/
theorem lastStatus_read_ne_fault (i : Instr) {s : State} (h : faulted (drawnFrame s) s.mask = false) :
    lastStatus (afterRead s (readResponse (readWord i) s)) ≠ 1#2 := by
  rw [lastStatus_read, respStatus_readWord_of_not_faulted i h]
  split <;> decide

/-- Settles O37: an enforced bit makes the response FAULT with the masked bits; without one the status is another. -/
theorem faultExactlyWhenAnEnforcedBitIsSet : Obligations.FaultExactlyWhenAnEnforcedBitIsSet := by
  intro i s hi
  have hread : isRead i = true := by obtain rfl | rfl := hi <;> rfl
  refine ⟨_, exec_read_eq hread s, ?_⟩
  rw [← faulted_iff]
  cases h : faulted (drawnFrame s) s.mask with
  | true =>
    rw [lastStatus, lastResponse_afterRead, readResponse_of_faulted hi h]
    exact ⟨iff_of_true (respStatus_responseWord ..) rfl, fun _ => ⟨respFbits_responseWord .., respValue_zero ..⟩⟩
  | false =>
    have hne := lastStatus_read_ne_fault i h
    exact ⟨iff_of_false hne (by decide), fun hfault => absurd hfault hne⟩

/-! ### Instances (R110, R122) -/

/-- A step always answers a next state, which draws from the same stream. -/
theorem step_keeps_stream (s : State) : ∃ t, step s = .next t ∧ t.stream = s.stream := by
  cases hw : s.commands with
  | nil => exact ⟨s, stepRunsTheDecodedCommand.2 s hw, rfl⟩
  | cons w rest =>
    by_cases hillegal : IllegalWord w
    · exact ⟨_, step_of_illegal hw hillegal, rfl⟩
    · obtain ⟨i, rfl⟩ := exists_encode_of_legal hillegal
      obtain ⟨t, _, _, hexec, -, -, hstream, -⟩ := everyCommandHasItsFrame i { s with commands := rest }
      exact ⟨t, (step_of_encode hw).trans hexec, hstream⟩

/-- The move on an instance writes that instance's next state back and extends the bus record. -/
theorem stepInstance_of_step {k : Nat} {p : Platform} {s t : State} (hs : p.instances[k]? = some s)
    (ht : step (s.onStream k) = .next t) :
    p.stepInstance k = .next { instances := p.instances.set k t, bus := p.bus ++ newEvents k s t } := by
  simp only [Platform.stepInstance, hs, ht]

/-- Settles O53: the move sets entry `k` of the instances to that instance's step and no other. -/
theorem instancesShareNoState : Obligations.InstancesShareNoState := by
  intro k p s hs
  obtain ⟨t, hstep, hstream⟩ := step_keeps_stream (s.onStream k)
  have hk : k < p.instances.length := (List.getElem?_eq_some_iff.mp hs).1
  refine ⟨t, _, hstep, hstream, stepInstance_of_step hs hstep, ?_, fun j hj => ?_, ?_⟩
  · exact List.getElem?_set_self hk
  · exact List.getElem?_set_ne hj.symm
  · exact List.length_set

end Sys2Proof.Proofs
end

section
/-! SUPPORT. What a step leaves of `INIT`, of the trace and of `MASK`. Then the statements of 70_reset_and_hazards.md:
construction and the silence before Ready (R114), and that Ready and `MASK` persist (R116). -/

namespace Sys2Proof.Proofs

open Sys2Proof.Machine Sys2Proof.Safety Sys2Proof.Claims

/-! ### Reset (R114) -/

/-- Only what leaves `INIT` 1 emits. -/
theorem PortEffect.trace_eq_of_not_ready {s t : State} (h : PortEffect s t) (h0 : t.init = 0#1) :
    t.trace = s.trace := by
  cases h with
  | silent _ _ htrace => exact htrace
  | begun hready _ _ | read hready _ _ => exact absurd (hready.symm.trans h0) (by decide)

/-- Settles O10: construction's fields are given, and a step after which `INIT` is 0 left the ports alone. -/
theorem resetValuesAndSilenceUntilReady : Obligations.ResetValuesAndSilenceUntilReady := by
  refine ⟨fun p => ⟨State.construct_init p, State.construct_mask p, State.construct_params p, State.construct_trace p,
    rfl, rfl⟩, fun s t hstep => (step_disciplined_append hstep).1, fun s t hstep h0 => ?_⟩
  obtain rfl | ⟨_, -, -, heffect⟩ := step_portEffect hstep
  · rfl
  · exact heffect.trace_eq_of_not_ready h0

/-! ### What persists (R116) -/

/-- Nothing clears `INIT`. -/
theorem PortEffect.keeps_ready {s t : State} (h : PortEffect s t) (h1 : s.init = 1#1) : t.init = 1#1 := by
  cases h with
  | silent hinit _ _ => exact hinit.trans h1
  | begun hready _ _ | read hready _ _ => exact hready

/-- A command keeps `MASK`, or is a SET_MASK that writes its operand's low three bits (R18). -/
theorem exec_mask_cases {i : Instr} {s t : State} (h : exec i s = .next t) :
    t.mask = s.mask ∨ ∃ m, i = .setMask m ∧ t.mask = m.extractLsb' 0 3 := by
  obtain ⟨_, _, _, hexec, -, -, -, hmask, -⟩ := everyCommandHasItsFrame i s
  obtain rfl := Host.Outcome.next.inj (hexec.symm.trans h)
  cases i with
  | setMask m => exact .inr ⟨m, rfl, hmask⟩
  | begin | readInternal | readCelsius | readFahrenheit | readFault | getConfig => exact .inl hmask

/-- A step keeps `MASK`, or its word was a SET_MASK: being idle and the ILLEGAL response keep it. -/
theorem step_mask_cases {s t : State} (h : step s = .next t) :
    t.mask = s.mask ∨ ∃ m, s.commands.head? = some (encode (.setMask m)) ∧ t.mask = m.extractLsb' 0 3 := by
  obtain ⟨-, rfl⟩ | ⟨w, i, hw, hd, hexec⟩ | ⟨_, -, -, rfl⟩ := step_cases h
  · exact .inl rfl
  · obtain hkept | ⟨m, rfl, hmask⟩ := exec_mask_cases hexec
    · exact .inl hkept
    · exact .inr ⟨m, by rw [hw, (decodeAndEncodeAgreeBothWays w _).mp hd], hmask⟩
  · exact .inl rfl

/-- Settles O13: a step never clears `INIT`, and one that does not keep `MASK` ran a SET_MASK. -/
theorem readyIsForeverAndOnlySetMaskChangesMask : Obligations.ReadyIsForeverAndOnlySetMaskChangesMask := by
  refine fun s t hstep => ⟨fun h1 => ?_, (step_mask_cases hstep).resolve_left⟩
  obtain rfl | ⟨_, -, -, heffect⟩ := step_portEffect hstep
  · exact h1
  · exact heffect.keeps_ready h1

end Sys2Proof.Proofs
end

section
/-! SUPPORT. The host's reset state (R113, R115) and what its parameters must meet (R9). -/

namespace Sys2Proof.Proofs

open Sys2Proof.Machine

/-- `BAUD` is the only parameter R9 restricts. -/
theorem params_wellFormed_iff (p : Params) : p.wellFormed = true ↔ 0 < p.baud := decide_eq_true_iff

theorem resetParams_wellFormed : Config.resetParams.wellFormed = true :=
  (params_wellFormed_iff _).mpr Nat.one_pos

/-- Settles O11: construction keeps the parameters it is given, and `State.reset` is the one with `resetParams`. -/
theorem resetIsAConstruction : Obligations.ResetIsAConstruction := by
  have hparams : State.reset.params = Config.resetParams := State.construct_params _
  refine ⟨?_, ?_, State.construct_commands _, State.construct_responses _⟩
  · rw [hparams, State.reset]
  · rw [hparams, resetParams_wellFormed]

end Sys2Proof.Proofs
end
